-- ==== Sys2Proof/Word.lean ====
section
/-! DEFINITION. The word types of the ZT416: what the reference calls a byte and its little-endian
multi-byte fields (00_scope.md, Conventions). Every field helper stands in Machine/Operands.lean. -/

namespace Sys2Proof

/-- One byte of the host link, of capture memory, of the directory or of the freeze image. -/
abbrev Byte := BitVec 8

/-- A two-byte field: a mask, a tag, a sequence number, the sixteen conditioned levels. -/
abbrev Half := BitVec 16

/-- A four-byte field: a counter (R76) or a timestamp (R47). -/
abbrev Word := BitVec 32

end Sys2Proof
end

