-- ==== Sys2Proof/Syntax.lean ====
section
/-! DEFINITION. The commands of the block: one constructor of Instr for each row of
spec/opcode_table.json, in the table's order. A row is an event of the host link, the completion event
of a command, a tick, something that comes about inside a tick, a wake or an event of a reset
(95_what_each_step_holds.md). The operands of a row are what comes from OUTSIDE the part at that event:
the byte on the link, a command's operand and guard bytes, and the levels of the input pins that the
reference says are sampled at that event. -/

namespace Sys2Proof

/-- The levels of the input pins that an event of a reset samples (R1, R20, R49, R168, R169).
`ifsel` true is IFSEL high (I2C), `adr` true is ADR high (address 4Bh), `prm` true is PRM high,
`csLow` true is CS# low, `rstLow` true is RST# low. -/
structure PinLevels where
  ifsel : Bool
  adr : Bool
  prm : Bool
  csLow : Bool
  rstLow : Bool
  deriving DecidableEq, Repr

/-- The address byte of a START or repeated START: the 7-bit address, and the read/write bit, 1 for a read
transfer (R4). -/
structure AddressByte where
  address : BitVec 7
  read : Bool
  deriving DecidableEq, Repr

/-- The moments of an outgoing byte. `value` is the byte event, at which the value is fixed. `clock` is
the first rising edge of SCK of the byte's transfer, at which, in SPI, every other effect of a window
payload byte takes place (R3); in I2C everything happens at the byte event. `nack` is the master's
not-acknowledge after the byte, which in I2C ends the read transfer (R6). -/
inductive ReadMoment where
  | value
  | clock
  | nack
  deriving DecidableEq, Repr

/-- The commands. -/
inductive Instr where
  /-- TRANSACTION_START (R9): a falling CS#, or a START or repeated START followed by this address byte (R4).
  SPI has no address byte: the operand is not looked at there. -/
  | transactionStart (address : AddressByte)
  /-- TRANSACTION_END (R9): a rising CS#, a STOP, or a repeated START to another device. -/
  | transactionEnd
  /-- HEADER_BYTE (R8). -/
  | headerByte (b : Byte)
  /-- CODE_BYTE (R10). -/
  | codeByte (b : Byte)
  /-- OPERAND_BYTE (R10, R11): a further byte of a command. `prm` is the PRM pin at this event: the
  byte may complete a SYSRESET, which samples it (R49). -/
  | operandByte (b : Byte) (prm : Bool)
  /-- SKIP_BYTE (R13). -/
  | skipByte (b : Byte)
  /-- IGNORED_BYTE (R19). -/
  | ignoredByte (b : Byte)
  /-- STRAY_READ (R18): its byte event, or another of its moments. -/
  | strayRead (m : ReadMoment := .value)
  /-- STRAY_WRITE (R18). -/
  | strayWrite (b : Byte)
  /-- ECHO_BYTE (R39): its byte event, or another of its moments. -/
  | echoByte (m : ReadMoment := .value)
  /-- STATUS_BYTE (R41): its byte event, or another of its moments. -/
  | statusByte (m : ReadMoment := .value)
  /-- WINDOW_READ_BYTE (R136), at one of its moments. -/
  | windowReadByte (m : ReadMoment)
  /-- WINDOW_WRITE_BYTE (R137). -/
  | windowWriteByte (b : Byte)
  /-- UNKNOWN_COMMAND (R13): a complete command whose code is not a known code. -/
  | unknownCommand
  /-- NOP (R26). -/
  | nop
  /-- GRANT (R61): grant mask, guard mask, guard byte. -/
  | grant (grantMask guardMask guard : Byte)
  /-- COMMIT (R28): guard byte. -/
  | commit (guard : Byte)
  /-- SYSRESET (R170): guard byte; `prm` is the PRM pin at the completion event (R49). -/
  | sysreset (guard : Byte) (prm : Bool)
  /-- LOCK (R31). -/
  | lock
  /-- UNLOCK (R32): guard byte. -/
  | unlock (guard : Byte)
  /-- HOLD (R33): n. -/
  | hold (n : Byte)
  /-- STANDBY (R164): guard byte. -/
  | standby (guard : Byte)
  /-- TBSET (R46): prescaler. -/
  | tbset (prescaler : Byte)
  /-- INCFG (R50): input, configuration. -/
  | incfg (input : Byte) (config : Half)
  /-- BANKCTL (R70): control. -/
  | bankctl (control : Byte)
  /-- BANKSNAP (R88): selection. -/
  | banksnap (selection : Byte)
  /-- CNTSET (R87): counter, value. -/
  | cntset (counter : Byte) (value : Word)
  /-- WRAPCFG (R86): enables. -/
  | wrapcfg (enables : Byte)
  /-- RECCTL (R106): target, start entry. -/
  | recctl (target start : Byte)
  /-- RECCFG (R105): interval, kinds, slot count, eight counter slots. -/
  | reccfg (interval : BitVec 24) (kinds k : Byte) (slots : Vector Byte 8)
  /-- RELEASE (R127): leaf. -/
  | release (leaf : Byte)
  /-- NOTEMARK (R128): leaf. -/
  | notemark (leaf : Byte)
  /-- SEALNOW (R129). -/
  | sealnow
  /-- MARK (R117): class, tag. -/
  | mark (cls : Byte) (tag : Half)
  /-- WINSET (R132): space, walk, start, end. -/
  | winset (space walk : Byte) (start stop : Half)
  /-- ALERTMASK (R146): mask. -/
  | alertmask (mask : Half)
  /-- ALERTACK (R149): mask. -/
  | alertack (mask : Half)
  /-- WDSET (R156): E, W, flags. -/
  | wdset (e w flags : Byte)
  /-- WDKICK (R157): guard byte. -/
  | wdkick (guard : Byte)
  /-- WDOFF (R158): guard byte. -/
  | wdoff (guard : Byte)
  /-- TICK (R44): the PRM level and the raw levels of EV0 to EV15 (input n in bit n) that the tick samples. -/
  | tick (prm : Bool) (ev : Half)
  /-- PERMIT_CHANGE (R48): step 2 of a tick at which PRM, sampled at `prm`, is recognized. -/
  | permitChange (prm : Bool)
  /-- WD_WARN (R159). -/
  | wdWarn
  /-- WD_FIRED (R160). -/
  | wdFired
  /-- PULSE_END (R161). -/
  | pulseEnd
  /-- INPUT_EDGE (R52): the conditioner of one input, at a tick that samples its raw level at `raw`. -/
  | inputEdge (input : Fin 16) (raw : Bool)
  /-- SAMPLING_POINT (R114). -/
  | samplingPoint
  /-- HOLD_TICK_LIMIT (R35). -/
  | holdTickLimit
  /-- HOLD_COMMANDS_DONE (R34). -/
  | holdCommandsDone
  /-- WAKE (R166, R167): whether a host transaction starts, and the inputs whose raw level changed
  (input n in bit n). -/
  | wake (host : Bool) (changed : Half)
  /-- POWER_ON_RESET (R168): the levels of all the input pins, the straps sampled among them (R1), and of EV0
  to EV15 (input n in bit n). -/
  | powerOnReset (pins : PinLevels) (ev : Half)
  /-- SWEEP_COMPLETE (R168). -/
  | sweepComplete (pins : PinLevels)
  /-- PIN_RESET_ASSERT (R169). -/
  | pinResetAssert
  /-- PIN_RESET_RELEASE (R169). -/
  | pinResetRelease (pins : PinLevels)
  /-- RELEASE_OF_RST_IN_INIT (R168). -/
  | releaseOfRstInInit (pins : PinLevels)
  /-- LOSS_OF_SUPPLY (R168). -/
  | lossOfSupply
  deriving DecidableEq, Repr

end Sys2Proof
end

