-- ==== Sys2Proof/WellFormed.lean ====
section
/-! DEFINITION. Which terms of Instr stand for an event that can occur. Every operand has the width the
link gives it, and an operand outside the range a command states is not ill-formed: the part answers it
with OPERAND (R21, check 5). -/

namespace Sys2Proof

/-- A WAKE names a source (R166): a host transaction start, or at least one input that changed. A pin
reset ends, and RST# is released in INIT, at the RISING edge of RST#, so those two sample RST# high
(R168, R169). Every other term is well formed. -/
def Instr.wellFormed : Instr → Bool
  | .wake host changed => host || changed != 0
  | .pinResetRelease p => !p.rstLow
  | .releaseOfRstInInit p => !p.rstLow
  | _ => true

end Sys2Proof
end

