-- ==== Sys2Proof/Decode.lean ====
section
/-! DEFINITION. The table's words, and the command bytes of the host link. spec/opcode_table.json gives
no row any bits, so decodeTableWord answers none. The command summary table of section 2.3 does give
each command a code and a length: commandLength is that table as the segment parser uses it (R10), and
commandOf reads a complete command from its bytes, operands in the order they are sent and every
multi-byte operand little-endian (00_scope.md, Conventions). commandBytes is the other direction. -/

namespace Sys2Proof

/-- The command that a word of the opcode table spells: the table gives its rows no bits. -/
def decodeTableWord (_nbits _w : Nat) : Option Instr := none

/-- The command summary table (section 2.3): the fixed length of each known code, counting the code byte
and the guard byte; none for an unknown code (R10, R13). -/
def commandLength (code : Byte) : Option Nat :=
  match code.toNat with
  | 0x00 => some 1
  | 0x10 => some 4
  | 0x11 => some 2
  | 0x12 => some 2
  | 0x13 => some 1
  | 0x14 => some 2
  | 0x15 => some 2
  | 0x16 => some 2
  | 0x17 => some 2
  | 0x20 => some 4
  | 0x30 => some 2
  | 0x31 => some 2
  | 0x32 => some 6
  | 0x33 => some 2
  | 0x40 => some 3
  | 0x41 => some 14
  | 0x42 => some 2
  | 0x43 => some 2
  | 0x44 => some 1
  | 0x45 => some 4
  | 0x50 => some 7
  | 0x60 => some 3
  | 0x61 => some 3
  | 0x70 => some 4
  | 0x71 => some 2
  | 0x72 => some 2
  | _ => none

/-- The command that complete command bytes spell, the code byte first; none if the code is unknown or
the number of bytes is not the code's. `prm` is the PRM level at the byte event, which SYSRESET samples. -/
def commandOf (prm : Bool) (bytes : List Byte) : Option Instr :=
  match bytes with
  | [] => none
  | code :: rest =>
    match code.toNat, rest with
    | 0x00, [] => some .nop
    | 0x10, [g, v, x] => some (.grant g v x)
    | 0x11, [x] => some (.commit x)
    | 0x12, [x] => some (.sysreset x prm)
    | 0x13, [] => some .lock
    | 0x14, [x] => some (.unlock x)
    | 0x15, [n] => some (.hold n)
    | 0x16, [x] => some (.standby x)
    | 0x17, [p] => some (.tbset p)
    | 0x20, [n, lo, hi] => some (.incfg n (hi ++ lo))
    | 0x30, [c] => some (.bankctl c)
    | 0x31, [c] => some (.banksnap c)
    | 0x32, [c, a, b, d, e] => some (.cntset c (e ++ d ++ b ++ a))
    | 0x33, [e] => some (.wrapcfg e)
    | 0x40, [t, e] => some (.recctl t e)
    | 0x41, [a, b, c, kinds, k, s0, s1, s2, s3, s4, s5, s6, s7] =>
        some (.reccfg (c ++ b ++ a) kinds k #v[s0, s1, s2, s3, s4, s5, s6, s7])
    | 0x42, [l] => some (.release l)
    | 0x43, [l] => some (.notemark l)
    | 0x44, [] => some .sealnow
    | 0x45, [c, lo, hi] => some (.mark c (hi ++ lo))
    | 0x50, [sp, wk, a, b, c, d] => some (.winset sp wk (b ++ a) (d ++ c))
    | 0x60, [lo, hi] => some (.alertmask (hi ++ lo))
    | 0x61, [lo, hi] => some (.alertack (hi ++ lo))
    | 0x70, [e, w, f] => some (.wdset e w f)
    | 0x71, [x] => some (.wdkick x)
    | 0x72, [x] => some (.wdoff x)
    | _, _ => none

/-- Byte `i` of a field, byte 0 the least significant. -/
def byteAt {w : Nat} (x : BitVec w) (i : Nat) : Byte := x.extractLsb' (8 * i) 8

/-- The bytes of a command, the code byte first; none for an event that is not a complete known command. -/
def commandBytes : Instr → Option (List Byte)
  | .nop => some [0x00]
  | .grant g v x => some [0x10, g, v, x]
  | .commit x => some [0x11, x]
  | .sysreset x _ => some [0x12, x]
  | .lock => some [0x13]
  | .unlock x => some [0x14, x]
  | .hold n => some [0x15, n]
  | .standby x => some [0x16, x]
  | .tbset p => some [0x17, p]
  | .incfg n c => some [0x20, n, byteAt c 0, byteAt c 1]
  | .bankctl c => some [0x30, c]
  | .banksnap c => some [0x31, c]
  | .cntset c v => some [0x32, c, byteAt v 0, byteAt v 1, byteAt v 2, byteAt v 3]
  | .wrapcfg e => some [0x33, e]
  | .recctl t e => some [0x40, t, e]
  | .reccfg i kinds k s =>
      some ([0x41, byteAt i 0, byteAt i 1, byteAt i 2, kinds, k] ++ s.toList)
  | .release l => some [0x42, l]
  | .notemark l => some [0x43, l]
  | .sealnow => some [0x44]
  | .mark c t => some [0x45, c, byteAt t 0, byteAt t 1]
  | .winset sp wk a b => some [0x50, sp, wk, byteAt a 0, byteAt a 1, byteAt b 0, byteAt b 1]
  | .alertmask m => some [0x60, byteAt m 0, byteAt m 1]
  | .alertack m => some [0x61, byteAt m 0, byteAt m 1]
  | .wdset e w f => some [0x70, e, w, f]
  | .wdkick x => some [0x71, x]
  | .wdoff x => some [0x72, x]
  | _ => none

end Sys2Proof
end

