-- ==== Sys2Proof/Config.lean ====
section
/-! DEFINITION. The constants the ZT416 is built with. Nothing here is a free value: the reference
leaves no value of an operation open, so no constant of this file is opaque (NOTES.md, Assumptions). -/

namespace Sys2Proof.Config

/-- Bytes of capture memory (R92): 256 leaves of 256 bytes. -/
def captureBytes : Nat := 65536

/-- Bytes of the directory (R102): 64 entries of 4 bytes. -/
def directoryBytes : Nat := 256

/-- Bytes of the freeze image (R89). -/
def freezeBytes : Nat := 196

/-- Bytes of a leaf (R92). -/
def leafBytes : Nat := 256

/-- Bytes of a leaf's record area; the seal begins at this offset (R92). -/
def recordArea : Nat := 240

/-- Slots of the record queue (R110). -/
def queueDepth : Nat := 8

/-- REFCLK periods of the power-on sweep: one for each byte of capture memory and of the directory (R168). -/
def sweepPeriods : Nat := 65792

/-- Bytes of the status block (R40, R41). -/
def statusBytes : Nat := 20

end Sys2Proof.Config
end

