-- ==== Sys2Proof/Machine/State.lean ====
section
/-! DEFINITION. Everything the reference says the ZT416 holds, as plain data, and the state right after a
power-on reset. INVENTORY.md lists each field with the rule that names it and its reset value. -/

namespace Sys2Proof.Machine

/-- What stops the machine. -/
inductive Fault where
  /-- A window byte at an address that its space does not have (section 8.1: CAPTURE 0 to 65,535,
  DIRECTORY 0 to 255, FREEZE 0 to 195). Raised by the window unit alone. WINSET refuses every range
  outside the space (R132), so no state that a run from reset reaches raises it. Safe. -/
  | windowOutsideSpace
  deriving DecidableEq, Repr

/-- Why a command has no meaning. -/
inductive Refusal where
  /-- Raised by exec's arm of a row that has no meaning yet, by name. No arm of this model raises it. Safe. -/
  | notModelled (mnemonic : String)
  deriving DecidableEq, Repr

/-- Addressed memory: the bytes that are not 0, by address. An address that is not listed reads 0, which
is what the power-on sweep (R168) and every reset of the freeze image (R90) leave. -/
abbrev Memory := List Host.Cell

/-- Where the part stands between resets (R27): INIT, OPEN and COMMITTED are the life cycle; while RST# is
held low after a pin reset has begun, or while there is no supply, the part is in none of the three
(R27, R168). -/
inductive Life where
  | unpowered
  | init
  | heldInReset
  | opened
  | committed
  deriving DecidableEq, Repr

/-- The power states (section 11.1). -/
inductive Power where
  | run
  | standby
  deriving DecidableEq, Repr

/-- The last reset cause (R171). -/
inductive ResetCause where
  | por
  | pin
  | command
  deriving DecidableEq, Repr

/-- The twelve results (section 2.2). -/
inductive Result where
  | done
  | unknown
  | guard
  | state
  | operand
  | committed
  | held
  | locked
  | truncated
  | framing
  | denied
  | transition
  deriving DecidableEq, Repr

/-- The four counter banks. -/
inductive Bank where
  | edge
  | dwell
  | link
  | tally
  deriving DecidableEq, Repr

/-- The four unit states (R59). Each stands for one permitted combination of G, E and R. -/
inductive UnitState where
  | locked
  | off
  | ready
  | running
  deriving DecidableEq, Repr

/-- The states of the five units. -/
structure Units where
  edge : UnitState
  dwell : UnitState
  link : UnitState
  tally : UnitState
  recorder : UnitState
  deriving DecidableEq, Repr

/-- The nine alert causes (R144). -/
inductive Cause where
  | chainFault
  | sealNote
  | stopReached
  | recordLoss
  | grantLost
  | counterWrap
  | wdWarn
  | wdFired
  | frameError
  deriving DecidableEq, Repr

/-- The two read kinds of a segment (section 1.3). -/
inductive ReadKind where
  | window
  | status
  deriving DecidableEq, Repr

/-- The segment parser's state (section 1.4). In `collect`, the bytes received so far are kept in order;
once the code byte is among them, the length that belongs to it equals LEN (R10). -/
inductive Parser where
  | idle
  | expectHeader
  | collect (len : BitVec 5) (more : Bool) (got : List Byte)
  | skip (more : Bool) (left : Nat)
  | writeStream
  | readStream (kind : ReadKind) (echoSent : Bool)
  | ignore
  deriving DecidableEq, Repr

/-- The open I2C transfer to or from the part, by the read/write bit of the latest address byte addressed to
it (R4): none between transfers, and none ever in SPI. -/
inductive Transfer where
  | none
  | write
  | read
  deriving DecidableEq, Repr

/-- The host link: the parser, the open I2C transfer (R4, R6), the value driven for the latest outgoing byte (none while the part drives
nothing: SDO high-impedance, or SDA undriven so that the master reads FFh), whether the part acknowledged
the latest address or data byte in I2C (R4, R5, R7), and the latched status block with the index of the
next byte to deliver (R40). -/
structure Link where
  parser : Parser
  transfer : Transfer
  out : Option Byte
  ack : Bool
  latch : List Byte
  latchPos : Nat
  deriving DecidableEq, Repr

/-- The sampled straps (R1): I2C or SPI, and the I2C address select. -/
structure Straps where
  i2c : Bool
  adrHigh : Bool
  deriving DecidableEq, Repr

/-- The levels last shown on the input pins: the reset and strap pins, PRM and CS#, and EV0 to EV15. -/
structure InputPins where
  ifsel : Bool
  adr : Bool
  prm : Bool
  csLow : Bool
  rstLow : Bool
  ev : Half
  deriving DecidableEq, Repr

/-- The output pins: RDY high, ALERT# driven low, HRST# driven low. -/
structure OutputPins where
  rdy : Bool
  alertLow : Bool
  hrstLow : Bool
  deriving DecidableEq, Repr

/-- The hold (section 2.6): active, commands remaining, tick count, and the level at which ALERT# is held. -/
structure Hold where
  active : Bool
  remaining : Nat
  ticks : BitVec 8
  alertLow : Bool
  deriving DecidableEq, Repr

/-- The edge modes (R50, R55). -/
inductive EdgeMode where
  | none
  | rise
  | fall
  | both
  deriving DecidableEq, Repr

/-- One input conditioner: its five configuration fields and its working state (section 3.4). -/
structure Conditioner where
  inverted : Bool
  mode : EdgeMode
  filter : BitVec 4
  trig : Bool
  wake : Bool
  level : Bool
  stab : BitVec 4
  seeded : Bool
  deriving DecidableEq, Repr

/-- The counters 0 to 44, the wrap sets (`wrapped[c]` says that counter `c` is in its bank's wrap set),
and the four wrap-alert enables (bit 0 EDGE, 1 DWELL, 2 LINK, 3 TALLY) (R76, R85, R86). -/
structure Counters where
  value : Vector Word 45
  wrapped : Vector Bool 45
  wrapAlert : BitVec 4
  deriving DecidableEq, Repr

/-- The fields that a SNAPSHOT and an EXTENDED record share (R95, R96). -/
structure SnapFields where
  deferred : Bool
  missed : BitVec 4
  levels : Half
  time : Word
  seq : Half
  leaf : Byte
  running : BitVec 4
  deriving DecidableEq, Repr

/-- A record of the record queue, by kind (R94 to R99). -/
inductive Rec where
  | snapshot (f : SnapFields)
  | extended (f : SnapFields) (valid : Byte) (values : List Word)
  | event (input : BitVec 4) (rising : Bool) (count : Half) (time : Word)
  | mark (cls : Byte) (tag : Half) (time : Word)
  | supervisor (fired : Bool) (tally : Byte) (e : Byte) (time : Word)
  | resume (host : Bool) (input : BitVec 4) (episode : Byte) (time : Word)
  | loss (count : Half) (time : Word)
  deriving DecidableEq, Repr

/-- The recorder configuration (R105). -/
structure RecConfig where
  interval : BitVec 24
  snap : Bool
  extended : Bool
  events : Bool
  supervisor : Bool
  k : Nat
  slots : Vector Byte 8
  deriving DecidableEq, Repr

/-- The writer's position (section 7.1). -/
structure Cursor where
  entry : BitVec 6
  leaf : Byte
  offset : Nat
  placed : Bool
  blocked : Bool
  deriving DecidableEq, Repr

/-- The fault kinds (R152). -/
inductive FaultKind where
  | none
  | void
  | linkChain
  | range
  | endOfDirectory
  deriving DecidableEq, Repr

/-- The recorder's state (section 7.1), but for its unit state, the leaf sequence included. The countdown
is none while it is stopped; the first-loss timestamp is none while there is none. -/
structure Recorder where
  config : RecConfig
  cursor : Cursor
  records : Nat
  queue : List Rec
  lossCount : Half
  lossTime : Option Word
  countdown : Option (BitVec 24)
  deferred : Bool
  missed : BitVec 4
  snapSeq : Half
  leafSeq : Half
  deriving DecidableEq, Repr

/-- The spaces of a window (R131). -/
inductive Space where
  | capture
  | directory
  | freeze
  deriving DecidableEq, Repr

/-- The walks of a window (R131). -/
inductive Walk where
  | wrap
  | oneshot
  | seals
  deriving DecidableEq, Repr

/-- The window unit (R131). `closed` is kept for one segment. `unclocked` says that, in SPI, the value of
a payload byte has been fixed and its transfer has not yet seen a rising edge of SCK (R3). -/
structure Window where
  space : Space
  walk : Walk
  start : Half
  stop : Half
  ptr : Half
  exhausted : Bool
  closed : Bool
  unclocked : Bool
  deriving DecidableEq, Repr

/-- The alert unit: the pending set and the mask in the bit positions of R144, and the fault detail (R152). -/
structure Alerts where
  raised : Half
  mask : Half
  faultKind : FaultKind
  faultEntry : BitVec 6
  deriving DecidableEq, Repr

/-- The supervisor's states (R155). -/
inductive WdState where
  | off
  | openWatch
  | watch
  deriving DecidableEq, Repr

/-- The supervisor's phases (R155). -/
inductive WdPhase where
  | quiet
  | warned
  | pulsing
  deriving DecidableEq, Repr

/-- The host supervisor (R155). -/
structure Supervisor where
  state : WdState
  phase : WdPhase
  count : Nat
  pulse : Byte
  e : Nat
  w : Byte
  warn : Bool
  tally : Byte
  deriving DecidableEq, Repr

/-- The state of the ZT416, with the queue of the commands that wait. -/
@[ext]
structure State where
  pending : List Instr
  inPins : InputPins
  outPins : OutputPins
  straps : Straps
  link : Link
  life : Life
  power : Power
  episode : Byte
  resetCause : ResetCause
  resetCount : Byte
  sweep : Nat
  lastResult : Result
  locked : Bool
  hold : Hold
  prescaler : Byte
  divider : Nat
  timebase : BitVec 48
  permit : Bool
  permitStab : BitVec 3
  inputs : Vector Conditioner 16
  grantMask : BitVec 5
  guardMask : BitVec 5
  units : Units
  counters : Counters
  freeze : Memory
  recorder : Recorder
  capture : Memory
  directory : Memory
  window : Window
  alerts : Alerts
  supervisor : Supervisor
  deriving DecidableEq, Repr

/-- A conditioner after every reset (R50, R53). -/
def Conditioner.reset : Conditioner :=
  { inverted := false, mode := .none, filter := 0, trig := false, wake := false,
    level := false, stab := 0, seeded := false }

/-- The counters after every reset (R91). -/
def Counters.reset : Counters :=
  { value := Vector.replicate 45 0, wrapped := Vector.replicate 45 false, wrapAlert := 0 }

/-- The recorder after a power-on reset (R104). -/
def Recorder.reset : Recorder :=
  { config := { interval := 1000, snap := true, extended := false, events := false,
                supervisor := true, k := 0, slots := Vector.replicate 8 0 }
    cursor := { entry := 0, leaf := 0, offset := 0, placed := false, blocked := false }
    records := 0, queue := [], lossCount := 0, lossTime := none, countdown := none
    deferred := false, missed := 0, snapSeq := 0, leafSeq := 0 }

/-- The machine as a power-on reset leaves it at its entry into OPEN (R168; the reset-state table of
section 11.5), with nothing waiting. The levels of the input pins, which no reset sets, and the link's
line are the model's choice (DESIGN CHOICE, unsafe: notes/assumptions/1.md and 2.md). -/
def State.reset : State :=
  { pending := []
    inPins := { ifsel := false, adr := false, prm := false, csLow := false, rstLow := false, ev := 0 }
    outPins := { rdy := false, alertLow := false, hrstLow := false }
    straps := { i2c := false, adrHigh := false }
    link := { parser := .idle, transfer := .none, out := none, ack := false, latch := [], latchPos := 0 }
    life := .opened
    power := .run
    episode := 0
    resetCause := .por
    resetCount := 0
    sweep := Config.sweepPeriods
    lastResult := .done
    locked := false
    hold := { active := false, remaining := 0, ticks := 0, alertLow := false }
    prescaler := 99
    divider := 0
    timebase := 0
    permit := false
    permitStab := 0
    inputs := Vector.replicate 16 Conditioner.reset
    grantMask := 0
    guardMask := 0
    units := { edge := .locked, dwell := .locked, link := .locked, tally := .locked, recorder := .locked }
    counters := Counters.reset
    freeze := []
    recorder := Recorder.reset
    capture := []
    directory := []
    window := { space := .capture, walk := .wrap, start := 0, stop := 65535, ptr := 0,
                exhausted := false, closed := false, unclocked := false }
    alerts := { raised := 0, mask := 0x1FF, faultKind := .none, faultEntry := 0 }
    supervisor := { state := .openWatch, phase := .quiet, count := 0, pulse := 0, e := 16, w := 20,
                    warn := false, tally := 0 } }

end Sys2Proof.Machine
end

