-- ==== Sys2Proof/Machine/Operands.lean ====
section
/-! DEFINITION. Fields and their bytes: little-endian layout (00_scope.md, Conventions), saturating and
bit-set helpers, the bytes of every record kind (R94 to R99), of a seal (R100) and of the freeze image's
fields (R89), and the coded operands of the commands. -/

namespace Sys2Proof.Machine

/-- The `n` bytes of a field, the least significant first. -/
def leBytes {w : Nat} (x : BitVec w) : Nat → List Byte
  | 0 => []
  | n + 1 => x.setWidth 8 :: leBytes (x >>> 8) n

/-- One more, stopping at the greatest value of the width. -/
def satInc {w : Nat} (x : BitVec w) : BitVec w := if x = BitVec.allOnes w then x else x + 1

/-- One more, wrapping at the width of the field. -/
def wrapInc {w : Nat} (x : BitVec w) : BitVec w := x + 1

/-- A bit set from its members in ascending order: bit 0 first. -/
def bitsOf (w : Nat) (l : List Bool) : BitVec w := (BitVec.ofBoolListLE l).setWidth w

/-- A byte with one named bit. -/
def bitByte (b : Bool) (i : Nat) : Byte := if b then (1 : Byte) <<< i else 0

/-- The sixteen event inputs in ascending order (R51). -/
def allInputs : List (Fin 16) := [0, 1, 2, 3, 4, 5, 6, 7, 8, 9, 10, 11, 12, 13, 14, 15]

/-- The low 32 bits of the timebase: the timestamp of R47. -/
def timestamp (s : State) : Word := s.timebase.setWidth 32

/-- Bits 3–0: the banks in the order EDGE, DWELL, LINK, TALLY (R88, R95). -/
def bankBits (e d l t : Bool) : BitVec 4 := bitsOf 4 [e, d, l, t]

/-- Bytes 1 to 11 of a SNAPSHOT (R95). -/
def SnapFields.bytes (f : SnapFields) : List Byte :=
  [(f.missed.setWidth 8 <<< 4) ||| bitByte f.deferred 0] ++ leBytes f.levels 2 ++ leBytes f.time 4
    ++ leBytes f.seq 2 ++ [f.leaf, f.running.setWidth 8]

/-- The counter values an EXTENDED record holds: at most eight (R96). -/
def extendedValues (values : List Word) : List Word := values.take 8

/-- The bytes of a record, header first (R94 to R99). -/
def Rec.bytes : Rec → List Byte
  | .snapshot f => 0x13 :: f.bytes
  | .extended f valid values =>
      let k := BitVec.ofNat 8 (extendedValues values).length
      (0x24 + k) :: f.bytes ++ [valid, k, 0, 0] ++ (extendedValues values).flatMap fun v => leBytes v 4
  | .event input rising count time =>
      [0x32, input.setWidth 8 ||| bitByte rising 4] ++ leBytes count 2 ++ leBytes time 4
  | .mark cls tag time => [0x42, cls] ++ leBytes tag 2 ++ leBytes time 4
  | .supervisor fired tally e time => [0x52, if fired then 2 else 1, tally, e] ++ leBytes time 4
  | .resume host input episode time =>
      [0x62, if host then 1 else 2, input.setWidth 8, episode] ++ leBytes time 4
  | .loss count time => [0x72, 0] ++ leBytes count 2 ++ leBytes time 4

/-- A record's length in bytes (R94). -/
def Rec.length (r : Rec) : Nat := r.bytes.length

/-- A record's timestamp (R47). -/
def Rec.time : Rec → Word
  | .snapshot f => f.time
  | .extended f _ _ => f.time
  | .event _ _ _ t => t
  | .mark _ _ t => t
  | .supervisor _ _ _ t => t
  | .resume _ _ _ t => t
  | .loss _ t => t

/-- The sixteen bytes of a seal made by sealing (R100, R101): SEALED set, `notify` kept. -/
def sealBytes (notify : Bool) (records offset : Nat) (leafSeq : Half) (timebase : BitVec 48) : List Byte :=
  [1 ||| bitByte notify 1, BitVec.ofNat 8 records, BitVec.ofNat 8 (offset / 4), 0, 0, 0]
    ++ leBytes leafSeq 2 ++ leBytes timebase 6 ++ [0, 0]

/-- The sixteen bytes of a blank or noted seal (R101). -/
def openSeal (notify : Bool) : List Byte := bitByte notify 1 :: List.replicate 15 0

/-- The edge mode that bits 6–5 of INCFG's configuration name (R50). -/
def edgeModeOf (c : BitVec 2) : EdgeMode :=
  match c.toNat with
  | 0 => .none
  | 1 => .rise
  | 2 => .fall
  | _ => .both

/-- The space that WINSET's first operand names (R132). -/
def spaceOf (b : Byte) : Option Space :=
  match b.toNat with
  | 0 => some .capture
  | 1 => some .directory
  | 2 => some .freeze
  | _ => none

/-- The walk that WINSET's second operand names (R132). -/
def walkOf (b : Byte) : Option Walk :=
  match b.toNat with
  | 0 => some .wrap
  | 1 => some .oneshot
  | 2 => some .seals
  | _ => none

/-- The number of addresses of a space (section 8.1). -/
def Space.size : Space → Nat
  | .capture => Config.captureBytes
  | .directory => Config.directoryBytes
  | .freeze => Config.freezeBytes

/-- The target that RECCTL's first operand names (R73). -/
def targetOf (b : Byte) : Option UnitState :=
  match b.toNat with
  | 1 => some .off
  | 2 => some .ready
  | 3 => some .running
  | _ => none

/-- The target that a requested E and R name (R70): none for E 0 with R 1. -/
def bankTarget (e r : Bool) : Option UnitState :=
  match e, r with
  | false, false => some .off
  | true, false => some .ready
  | true, true => some .running
  | false, true => none

end Sys2Proof.Machine
end

