-- ==== Sys2Proof/Machine/Flags.lean ====
section
/-! DEFINITION. Status: the alert causes and the pending set (R144), the evaluation of ALERT# (R147, R148),
the codes of results and states, the echo byte (R39) and the status block (R41). -/

namespace Sys2Proof.Machine

/-- A cause's position in the pending set and the mask (R144). -/
def Cause.bit : Cause → Half
  | .chainFault => 0x001
  | .sealNote => 0x002
  | .stopReached => 0x004
  | .recordLoss => 0x008
  | .grantLost => 0x010
  | .counterWrap => 0x020
  | .wdWarn => 0x040
  | .wdFired => 0x080
  | .frameError => 0x100

/-- The pending set holds the cause. -/
def Alerts.has (a : Alerts) (c : Cause) : Bool := a.raised &&& c.bit != 0

/-- Raising a cause adds it to the pending set; the raisings coalesce (R144). -/
def raise (c : Cause) (s : State) : State := { s with alerts.raised := s.alerts.raised ||| c.bit }

/-- Removing the causes of a mask from the pending set. -/
def removeCauses (mask : Half) (s : State) : State :=
  { s with alerts.raised := s.alerts.raised &&& ~~~mask }

/-- The recorder's four causes (section 9.5). -/
def recorderCauses : Half :=
  Cause.chainFault.bit ||| Cause.sealNote.bit ||| Cause.stopReached.bit ||| Cause.recordLoss.bit

/-- The pending set and the mask have a cause in common (R39, R147). -/
def alertWanted (s : State) : Bool := s.alerts.raised &&& s.alerts.mask != 0

/-- ALERT# at the end of an event: driven as R147 says, or at its held level while a hold is active (R148). -/
def evalAlert (s : State) : State :=
  { s with outPins.alertLow := if s.hold.active then s.hold.alertLow else alertWanted s }

/-- The codes of the results (section 2.2). -/
def Result.code : Result → BitVec 4
  | .done => 0
  | .unknown => 1
  | .guard => 2
  | .state => 3
  | .operand => 4
  | .committed => 5
  | .held => 6
  | .locked => 7
  | .truncated => 8
  | .framing => 9
  | .denied => 10
  | .transition => 11

/-- The life cycle's code in status byte 0 (R41). Only OPEN and COMMITTED are ever visible (R27). -/
def Life.code : Life → BitVec 2
  | .opened => 1
  | .committed => 2
  | _ => 0

/-- The unit states' codes (R59). -/
def UnitState.code : UnitState → BitVec 2
  | .locked => 0
  | .off => 1
  | .ready => 2
  | .running => 3

/-- The fault kinds' codes (R41). -/
def FaultKind.code : FaultKind → Byte
  | .none => 0
  | .void => 1
  | .linkChain => 2
  | .range => 3
  | .endOfDirectory => 4

/-- The supervisor states' codes (R41). -/
def WdState.code : WdState → BitVec 2
  | .off => 0
  | .openWatch => 1
  | .watch => 2

/-- The supervisor phases' codes (R41). -/
def WdPhase.code : WdPhase → BitVec 2
  | .quiet => 0
  | .warned => 1
  | .pulsing => 2

/-- The reset causes' codes (R171). -/
def ResetCause.code : ResetCause → Byte
  | .por => 1
  | .pin => 2
  | .command => 3

/-- E, the enable control of a unit state (R59). -/
def UnitState.enabled : UnitState → Bool
  | .ready => true
  | .running => true
  | _ => false

/-- The echo byte (R39). -/
def echoByte (s : State) : Byte :=
  s.lastResult.code.setWidth 8 ||| bitByte (alertWanted s) 4 ||| bitByte (s.life == .committed) 5
    ||| bitByte s.locked 6 ||| bitByte s.hold.active 7

/-- Status bytes 6 and 7: the five unit states, two bits each (R41). -/
def unitField (u : Units) : Half :=
  (u.edge.code.setWidth 16) ||| (u.dwell.code.setWidth 16 <<< 2) ||| (u.link.code.setWidth 16 <<< 4)
    ||| (u.tally.code.setWidth 16 <<< 6) ||| (u.recorder.code.setWidth 16 <<< 8)

/-- The status block (R41). -/
def statusBlock (s : State) : List Byte :=
  [s.life.code.setWidth 8 ||| bitByte s.locked 2 ||| bitByte s.hold.active 3
      ||| ((BitVec.ofNat 3 s.hold.remaining).setWidth 8 <<< 4),
   s.lastResult.code.setWidth 8]
  ++ leBytes s.alerts.raised 2
  ++ leBytes s.alerts.mask 2
  ++ leBytes (unitField s.units) 2
  ++ [s.recorder.cursor.entry.setWidth 8 ||| bitByte s.recorder.cursor.placed 6
        ||| bitByte s.recorder.cursor.blocked 7,
      s.recorder.cursor.leaf,
      BitVec.ofNat 8 (s.recorder.cursor.offset / 4),
      BitVec.ofNat 8 s.recorder.queue.length,
      s.alerts.faultKind.code,
      s.alerts.faultEntry.setWidth 8,
      s.supervisor.state.code.setWidth 8 ||| (s.supervisor.phase.code.setWidth 8 <<< 2),
      s.supervisor.tally,
      s.resetCause.code,
      s.resetCount]
  ++ leBytes s.recorder.leafSeq 2

end Sys2Proof.Machine
end

