-- ==== Sys2Proof/Machine/Ops.lean ====
section
/-! DEFINITION. The operations every meaning shares: addressed memory, the units and their counters, and the
two questions that decide whether an event can reach the part at all. -/

namespace Sys2Proof.Machine

/-- The byte at an address; an unlisted address reads 0 (R90, R168). -/
def Memory.read : Memory → Nat → Byte
  | [], _ => 0
  | (k, v) :: m, a => if k = a then v else Memory.read m a

/-- Stores a byte, keeping the canonical form: storing 0 removes the entry. -/
def Memory.write : Memory → Nat → Byte → Memory
  | [], a, b => if b = 0 then [] else [(a, b)]
  | (k, v) :: m, a, b =>
      if a < k then (if b = 0 then (k, v) :: m else (a, b) :: (k, v) :: m)
      else if a = k then (if b = 0 then m else (a, b) :: m)
      else (k, v) :: Memory.write m a b

/-- Stores bytes from an address onward. -/
def Memory.writeAll (m : Memory) (a : Nat) : List Byte → Memory
  | [] => m
  | b :: bs => Memory.writeAll (m.write a b) (a + 1) bs

/-- The canonical form of a store of `size` bytes: addresses strictly rising and inside the store, no
listed byte 0. -/
abbrev Memory.wf (size : Nat) (m : Memory) : Prop :=
  m.Pairwise (fun x y => x.1 < y.1) ∧ ∀ c ∈ m, c.2 ≠ 0 ∧ c.1 < size

/-- The link takes traffic only in OPEN and COMMITTED: in INIT, while RST# is held low and without supply
every transaction is ignored (R7, R27). -/
def linkUp (s : State) : Bool := s.life == .opened || s.life == .committed

/-- Ticks occur only in OPEN and COMMITTED (R27, R45), and not in STANDBY (R165). -/
def ticking (s : State) : Bool := linkUp s && s.power == .run

/-- The state of a bank. -/
def Units.bank (u : Units) : Bank → UnitState
  | .edge => u.edge
  | .dwell => u.dwell
  | .link => u.link
  | .tally => u.tally

/-- The units with one bank's state replaced. -/
def Units.setBank (u : Units) (b : Bank) (x : UnitState) : Units :=
  match b with
  | .edge => { u with edge := x }
  | .dwell => { u with dwell := x }
  | .link => { u with link := x }
  | .tally => { u with tally := x }

/-- The bank's bit position in the masks and in WRAPCFG (R60, R86, R88). -/
def Bank.index : Bank → Nat
  | .edge => 0
  | .dwell => 1
  | .link => 2
  | .tally => 3

/-- The bank a counter belongs to (section 5.1). -/
def bankOf (c : Fin 45) : Bank :=
  if c.val < 16 then .edge else if c.val < 32 then .dwell else if c.val < 40 then .link else .tally

/-- A bank that counts nothing and holds nothing: Off or Locked (R68). -/
def UnitState.idle : UnitState → Bool
  | .locked => true
  | .off => true
  | _ => false

/-- The set of banks that are Running (R89, R95). -/
def runningBanks (u : Units) : BitVec 4 :=
  bankBits (u.edge == .running) (u.dwell == .running) (u.link == .running) (u.tally == .running)

/-- One count offered to a counter: taken only if its bank is Running (R76). A count that carries the
counter to 0 puts it into its bank's wrap set (R85) and raises COUNTER_WRAP if the bank's wrap-alert
enable is set (R86). -/
def offerCount (c : Fin 45) (s : State) : State :=
  if s.units.bank (bankOf c) = .running then
    let v := s.counters.value[c] + 1
    let wraps := v == 0
    { s with
      counters.value := s.counters.value.set c v
      counters.wrapped := if wraps then s.counters.wrapped.set c true else s.counters.wrapped
      alerts.raised :=
        if wraps && s.counters.wrapAlert.getLsbD (bankOf c).index
        then s.alerts.raised ||| Cause.counterWrap.bit else s.alerts.raised }
  else s

/-- The same count offered `n` times, once for each of several records (R83). -/
def offerCounts (c : Fin 45) : Nat → State → State
  | 0, s => s
  | n + 1, s => offerCounts c n (offerCount c s)

/-- A bank's wrap set becomes empty. -/
def clearWraps (b : Bank) (s : State) : State :=
  { s with counters.wrapped := Vector.ofFn fun c => s.counters.wrapped[c] && bankOf c != b }

/-- A bank's counters become 0 and its wrap set becomes empty (R63, R69). -/
def clearBank (b : Bank) (s : State) : State :=
  { s with
    counters.value := Vector.ofFn fun c => if bankOf c = b then 0 else s.counters.value[c]
    counters.wrapped := Vector.ofFn fun c => s.counters.wrapped[c] && bankOf c != b }

/-- All four banks are Off or Locked (R151). -/
def banksIdle (u : Units) : Bool := u.edge.idle && u.dwell.idle && u.link.idle && u.tally.idle

/-- COUNTER_WRAP leaves the pending set when all four banks are Off or Locked (R151). -/
def clearWrapCause (s : State) : State :=
  if banksIdle s.units then removeCauses Cause.counterWrap.bit s else s

/-- The value of the counter with a number (R96); numbers stop at 44. -/
def counterAt (s : State) (n : Nat) : Word := if h : n < 45 then s.counters.value[n] else 0

/-- The state of the bank of the counter with a number is Running (R96). -/
def counterRunning (s : State) (n : Nat) : Bool :=
  if h : n < 45 then s.units.bank (bankOf ⟨n, h⟩) == .running else false

/-- The sixteen conditioned levels, input n in bit n (R57). -/
def conditionedLevels (s : State) : Half := bitsOf 16 (s.inputs.toList.map Conditioner.level)

/-- The byte at an offset of a leaf (R92). -/
def leafByte (s : State) (leaf : Byte) (offset : Nat) : Byte :=
  s.capture.read (Config.leafBytes * leaf.toNat + offset)

/-- Bytes stored at an offset of a leaf (R92). -/
def writeLeaf (leaf : Byte) (offset : Nat) (bytes : List Byte) (s : State) : State :=
  { s with capture := s.capture.writeAll (Config.leafBytes * leaf.toNat + offset) bytes }

/-- A leaf is sealed when bit 0 of its byte 240 is 1, whoever wrote it (R101). -/
def isSealed (s : State) (leaf : Byte) : Bool := (leafByte s leaf 240).getLsbD 0

/-- NOTIFY of a leaf's seal (R100). -/
def notifyOf (s : State) (leaf : Byte) : Bool := (leafByte s leaf 240).getLsbD 1

/-- The dropped count of a leaf's seal (R100). -/
def droppedOf (s : State) (leaf : Byte) : Half := leafByte s leaf 245 ++ leafByte s leaf 244

end Sys2Proof.Machine
end

