-- ==== Sys2Proof/Machine/Recorder.lean ====
section
/-! DEFINITION. The recorder's engine: the offer rule (R112), snapshots (R115, R116), the directory and its
resolution (R102, R103, R124), leaf entry (R123), sealing (R122), STOP and faults (R125, R126), the
writer's drain (R118 to R121), and the moves of the recorder as a unit (R107 to R109). -/

namespace Sys2Proof.Machine

/-- The recorder is Running. -/
def recording (s : State) : Bool := s.units.recorder == .running

/-- A record joins the tail of the queue (R110). -/
def enqueue (r : Rec) (s : State) : State := { s with recorder.queue := s.recorder.queue ++ [r] }

/-- The LOSS record for the loss tally, with a lost count of its own (R112). -/
def lossRecord (count : Half) (s : State) : Rec := .loss count (s.recorder.lossTime.getD 0)

/-- The loss tally becomes 0, with no first-loss timestamp. -/
def clearLoss (s : State) : State := { s with recorder.lossCount := 0, recorder.lossTime := none }

/-- One offered record is lost at the queue: TALLY counter 41 and RECORD_LOSS (R83, R112). -/
def countLost (s : State) : State := raise .recordLoss (offerCount 41 s)

/-- The offer rule (R112). -/
def offer (r : Rec) (s : State) : State :=
  let n := s.recorder.queue.length
  if Config.queueDepth ≤ n then
    countLost { s with
      recorder.lossTime := if s.recorder.lossCount = 0 then some r.time else s.recorder.lossTime
      recorder.lossCount := satInc s.recorder.lossCount }
  else if s.recorder.lossCount = 0 then enqueue r s
  else if n + 1 = Config.queueDepth then
    countLost (clearLoss (enqueue (lossRecord (satInc s.recorder.lossCount) s) s))
  else enqueue r (clearLoss (enqueue (lossRecord s.recorder.lossCount s) s))

/-- The fields that a snapshot takes at its event (R95, R115, R116). -/
def snapFields (deferred : Bool) (missed : BitVec 4) (s : State) : SnapFields :=
  { deferred, missed, levels := conditionedLevels s, time := timestamp s, seq := s.recorder.snapSeq,
    leaf := s.recorder.cursor.leaf, running := runningBanks s.units }

/-- The counter numbers of the configuration's slots below k (R105). -/
def slotNumbers (c : RecConfig) : List Nat := (c.slots.toList.take c.k).map BitVec.toNat

/-- The record of a snapshot: SNAPSHOT, or EXTENDED with its counters (R95, R96). -/
def snapshotRecord (deferred : Bool) (missed : BitVec 4) (s : State) : Rec :=
  let f := snapFields deferred missed s
  if s.recorder.config.extended then
    .extended f (bitsOf 8 ((slotNumbers s.recorder.config).map (counterRunning s)))
      ((slotNumbers s.recorder.config).map (counterAt s))
  else .snapshot f

/-- A snapshot is offered, and the snapshot sequence increases whatever became of the record (R115). -/
def offerSnapshot (deferred : Bool) (missed : BitVec 4) (s : State) : State :=
  let t := offer (snapshotRecord deferred missed s) s
  { t with recorder.snapSeq := wrapInc t.recorder.snapSeq }

/-- A sampling point inside a hold is deferred (R116). -/
def deferSample (s : State) : State :=
  if s.recorder.deferred then { s with recorder.missed := satInc s.recorder.missed }
  else { s with recorder.deferred := true }

/-- Step 6 of a tick (R114, R115, R116). -/
def sampleStep (s : State) : State :=
  if recording s then
    match s.recorder.countdown with
    | none => s
    | some n =>
      if n - 1 = 0 then
        let t := { s with recorder.countdown := some s.recorder.config.interval }
        if !t.recorder.config.snap then t
        else if t.hold.active then deferSample t
        else offerSnapshot false 0 t
      else { s with recorder.countdown := some (n - 1) }
  else s

/-- The end of a hold settles the deferral (R36, step 2; R116). -/
def settleDeferral (s : State) : State :=
  if s.recorder.deferred then
    let t := if recording s then offerSnapshot true s.recorder.missed s else s
    { t with recorder.deferred := false, recorder.missed := 0 }
  else s

/-- The kinds of directory entries (R102). -/
inductive EntryKind where
  | store
  | link
  | stop
  | void
  deriving DecidableEq, Repr

/-- Byte `j` of entry `i` (R102). -/
def entryByte (d : Memory) (i : BitVec 6) (j : Nat) : Byte := d.read (4 * i.toNat + j)

/-- An entry's kind, from byte 0 as a whole byte (R102). -/
def entryKind (d : Memory) (i : BitVec 6) : EntryKind :=
  match (entryByte d i 0).toNat with
  | 1 => .store
  | 2 => .link
  | 3 => .stop
  | _ => .void

/-- The leaf after the last of a STORE's run: first leaf plus count, where count is byte 2 plus 1 (R103). -/
def runEnd (d : Memory) (i : BitVec 6) : Nat := (entryByte d i 1).toNat + (entryByte d i 2).toNat + 1

/-- A STORE's run is in range (R103). -/
def runInRange (d : Memory) (i : BitVec 6) : Bool := runEnd d i ≤ 256

/-- The target entry of a LINK: bits 5–0 of byte 1 (R102). -/
def linkTarget (d : Memory) (i : BitVec 6) : BitVec 6 := (entryByte d i 1).setWidth 6

/-- NOTE of a STORE (R102). -/
def entryNote (d : Memory) (i : BitVec 6) : Bool := (entryByte d i 3).getLsbD 0

/-- What resolving an entry comes to (R124). -/
inductive Resolution where
  | arrive (entry : BitVec 6)
  | stop
  | fault (kind : FaultKind)
  deriving DecidableEq, Repr

/-- Resolution of an entry: one LINK is followed, no more (R124). -/
def resolveEntry (d : Memory) (i : BitVec 6) : Resolution :=
  match entryKind d i with
  | .store => if runInRange d i then .arrive i else .fault .range
  | .stop => .stop
  | .void => .fault .void
  | .link =>
    let t := linkTarget d i
    match entryKind d t with
    | .store => if runInRange d t then .arrive t else .fault .range
    | .link => .fault .linkChain
    | .stop => .stop
    | .void => .fault .void

/-- Leaf entry (R123): block on a sealed leaf, else enter it and rewrite its seal (R101). -/
def leafEntry (s : State) : State :=
  let c := s.recorder.cursor
  if isSealed s c.leaf then { s with recorder.cursor := { c with placed := true, blocked := true, offset := 0 } }
  else
    let notify := notifyOf s c.leaf || entryNote s.directory c.entry
    let t := writeLeaf c.leaf 240 (openSeal notify) (writeLeaf c.leaf 0 [0] s)
    { t with recorder.cursor := { c with placed := true, blocked := false, offset := 0 }, recorder.records := 0 }

/-- The cursor stands at an entry and a leaf, and leaf entry is applied (R107, R124). -/
def arrive (entry : BitVec 6) (leaf : Byte) (s : State) : State :=
  leafEntry { s with recorder.cursor := { s.recorder.cursor with entry := entry, leaf := leaf } }

/-- Every record still in the queue is discarded or flushed, each with one count to TALLY counter 43 (R83). -/
def discardQueue (s : State) : State :=
  let t := offerCounts 43 s.recorder.queue.length s
  { t with recorder.queue := [] }

/-- The walk has ended: the recorder leaves Running for Ready, its countdown stops, and the cursor is
unplaced at an entry, keeping its leaf (R125, R126). -/
def endWalk (entry : BitVec 6) (s : State) : State :=
  { s with
    units.recorder := if recording s then .ready else s.units.recorder
    recorder.countdown := if recording s then none else s.recorder.countdown
    recorder.cursor := { s.recorder.cursor with entry := entry, offset := 0, placed := false, blocked := false } }

/-- Resolution met STOP (R125). -/
def stopAt (entry : BitVec 6) (s : State) : State :=
  discardQueue (raise .stopReached (endWalk entry s))

/-- The fault detail records the first fault since CHAIN_FAULT was last removed (R126, R152). -/
def recordFault (kind : FaultKind) (entry : BitVec 6) (s : State) : State :=
  if s.alerts.has .chainFault then s
  else { s with alerts.faultKind := kind, alerts.faultEntry := entry }

/-- Resolution or advance met a fault (R126). -/
def faultAt (kind : FaultKind) (entry : BitVec 6) (s : State) : State :=
  discardQueue (raise .chainFault (recordFault kind entry (endWalk entry s)))

/-- The cursor advances at the end of a seal (R124). -/
def advance (s : State) : State :=
  let c := s.recorder.cursor
  if c.leaf.toNat + 1 < runEnd s.directory c.entry then arrive c.entry (c.leaf + 1) s
  else if c.entry = 63 then faultAt .endOfDirectory 63 s
  else
    let i := c.entry + 1
    match resolveEntry s.directory i with
    | .arrive e => arrive e (entryByte s.directory e 1) s
    | .stop => stopAt i s
    | .fault k => faultAt k i s

/-- Steps 1 to 5 of sealing the cursor's leaf (R122): the fill, the seal, the leaf sequence, the count, SEAL_NOTE. -/
def writeSeal (s : State) : State :=
  let c := s.recorder.cursor
  let notify := notifyOf s c.leaf
  let t := writeLeaf c.leaf c.offset (List.replicate (Config.recordArea - c.offset) 0) s
  let t := writeLeaf c.leaf 240 (sealBytes notify s.recorder.records c.offset s.recorder.leafSeq s.timebase) t
  let t := { t with recorder.leafSeq := wrapInc t.recorder.leafSeq }
  let t := offerCount 44 t
  if notify then raise .sealNote t else t

/-- Sealing the cursor's leaf, the advance included (R122). -/
def sealLeaf (s : State) : State := advance (writeSeal s)

/-- A record fits in the rest of the cursor's leaf (R119). -/
def fits (r : Rec) (s : State) : Bool := s.recorder.cursor.offset + r.length ≤ Config.recordArea

/-- Placing a record (R119). -/
def placeRecord (r : Rec) (s : State) : State :=
  let c := s.recorder.cursor
  let offset := c.offset + r.length
  let t := writeLeaf c.leaf c.offset r.bytes s
  let t := if offset < Config.recordArea then writeLeaf c.leaf offset [0] t else t
  offerCount 40
    { t with recorder.cursor := { c with offset := offset }, recorder.records := s.recorder.records + 1 }

/-- Dropping a record at an occupied leaf (R121). -/
def dropRecord (s : State) : State :=
  let leaf := s.recorder.cursor.leaf
  raise .recordLoss (offerCount 42 (writeLeaf leaf 244 (leBytes (satInc (droppedOf s leaf)) 2) s))

/-- The record in hand, already taken from the queue, is placed, dropped or discarded (R118, R120). -/
def handleRecord (r : Rec) (s : State) : State :=
  if !s.recorder.cursor.placed then discardQueue (offerCount 43 s)
  else if s.recorder.cursor.blocked then dropRecord s
  else if fits r s then placeRecord r s
  else
    let t := sealLeaf s
    if !t.recorder.cursor.placed then offerCount 43 t
    else if t.recorder.cursor.blocked then dropRecord t
    else placeRecord r t

/-- The drain over the records of the queue, until it is empty or until a STOP or a fault has discarded
what remained (R118). -/
def drainList : List Rec → State → State
  | [], s => { s with recorder.queue := [] }
  | r :: rest, s =>
    let t := handleRecord r { s with recorder.queue := rest }
    if t.recorder.cursor.placed then drainList rest t else t

/-- The writer drains the queue (R110, R118). -/
def drain (s : State) : State := drainList s.recorder.queue s

/-- The effects of a move of the recorder to Off, and of its revocation (R109, R64, R150). -/
def recorderStops (s : State) : State :=
  let t := clearLoss (discardQueue s)
  { t with
    recorder.cursor := { t.recorder.cursor with placed := false, blocked := false, offset := 0 }
    recorder.countdown := none
    recorder.deferred := false
    recorder.missed := 0
    alerts.raised := t.alerts.raised &&& ~~~recorderCauses
    alerts.faultKind := .none
    alerts.faultEntry := 0 }

/-- A move of the recorder out of Off, at the entry its start entry resolved to (R107). -/
def recorderStarts (entry : BitVec 6) (target : UnitState) (s : State) : State :=
  let t := arrive entry (entryByte s.directory entry 1) s
  { t with
    recorder.snapSeq := 0
    units.recorder := target
    recorder.countdown := if target = .running then some t.recorder.config.interval else none }

end Sys2Proof.Machine
end

