-- ==== Sys2Proof/Machine/Command.lean ====
section
/-! DEFINITION. The command processor: the six acceptance checks (R21), the seven stages of a completion
event (R22), the hold's accounting and end (R34, R36), and how the parser moves on (R12). -/

namespace Sys2Proof.Machine

/-- What the acceptance checks need to know of a command besides its operands (R21, section 2.3). -/
structure CommandKind where
  /-- LOCK and UNLOCK pass check 1. -/
  passesLock : Bool := false
  /-- A protected command ends in a guard byte. -/
  guarded : Bool := false
  /-- HOLD itself is refused inside a hold. -/
  isHold : Bool := false
  /-- Pre-commit only, or COMMIT. -/
  preCommit : Bool := false

/-- A guard byte is the bitwise complement of the command's code byte (R25). -/
def guardOk (code guard : Byte) : Bool := guard == ~~~code

/-- The acceptance checks of R21 in their order; DONE stands for an accepted command. `stateFail` is the
result of check 6 where it fails. -/
def verdict (k : CommandKind) (guardRight operandsRight : Bool) (stateFail : Option Result) (s : State) :
    Result :=
  if s.locked && !k.passesLock then .locked
  else if k.guarded && !guardRight then .guard
  else if s.hold.active && (k.guarded || k.isHold) then .held
  else if s.life == .committed && k.preCommit then .committed
  else if !operandsRight then .operand
  else stateFail.getD .done

/-- The hold ends: it becomes inactive and the recorder settles its deferral (R36, steps 1 and 2). -/
def endHold (s : State) : State :=
  settleDeferral { s with hold := { active := false, remaining := 0, ticks := 0, alertLow := false } }

/-- Stages 5 and 6 of R22 for a command that completes while a hold is active (R34, R36). -/
def holdAccounting (s : State) : State :=
  if s.hold.remaining ≤ 1 then drain (endHold s)
  else { s with hold.remaining := s.hold.remaining - 1 }

/-- Stages 3 to 7 of R22: the result, the LINK count of R23, the hold accounting, ALERT#. `held` says that
a hold was active before the command, so that HOLD does not count toward the hold it opens (R33). -/
def finishCommand (held : Bool) (r : Result) (s : State) : State :=
  let t := offerCount (if r = .done then 33 else 34) { s with lastResult := r }
  evalAlert (if held then holdAccounting t else t)

/-- The parser moves on after a complete command by the MORE bit of its header (R12, R13). -/
def parserMovesOn (p : Parser) : Parser :=
  match p with
  | .collect _ more _ => if more then .expectHeader else .ignore
  | .skip more _ => if more then .expectHeader else .ignore
  | other => other

/-- The parser's move, as an update of the state. -/
def moveOn (s : State) : State := { s with link.parser := parserMovesOn s.link.parser }

/-- The completion event of a command with a known code (R21, R22, R12). While the link ignores all
traffic there is no completion (R7). -/
def complete (r : Result) (effect : State → State) (s : State) : State :=
  if linkUp s then
    moveOn (finishCommand s.hold.active r (if r = .done then effect s else s))
  else s

end Sys2Proof.Machine
end

