-- ==== Sys2Proof/Machine/Alerts.lean ====
section
/-! DEFINITION. The commands of the alert unit (chapter 9): ALERTMASK (R146) and ALERTACK (R149). -/

namespace Sys2Proof.Machine

/-- Bits 9 to 15 of a cause mask are clear (R146, R149). -/
def causeMaskOk (mask : Half) : Bool := mask &&& 0xFE00 == 0

/-- ALERTMASK's effect (R146). -/
def alertmaskEffect (mask : Half) (s : State) : State := { s with alerts.mask := mask }

/-- ALERTMASK (R146). -/
def execAlertmask (mask : Half) (s : State) : Host.Outcome State Fault Refusal :=
  .next (complete (verdict {} true (causeMaskOk mask) none s) (alertmaskEffect mask) s)

/-- ALERTACK's effect: the causes leave the pending set, and the fault detail is cleared if CHAIN_FAULT is
named, pending or not (R149, R152). -/
def alertackEffect (mask : Half) (s : State) : State :=
  let t := removeCauses mask s
  if mask &&& Cause.chainFault.bit != 0 then { t with alerts.faultKind := .none, alerts.faultEntry := 0 } else t

/-- ALERTACK (R149). -/
def execAlertack (mask : Half) (s : State) : Host.Outcome State Fault Refusal :=
  .next (complete (verdict {} true (causeMaskOk mask) none s) (alertackEffect mask) s)

end Sys2Proof.Machine
end

