-- ==== Sys2Proof/Machine/Control.lean ====
section
/-! DEFINITION. The commands of the command processor itself (chapter 2): NOP, COMMIT, LOCK, UNLOCK, HOLD, an
unknown command, and the entry into STANDBY (R164). -/

namespace Sys2Proof.Machine

/-- A complete command with an unknown code (R13): the checks of R21 do not apply to it. -/
def execUnknownCommand (s : State) : Host.Outcome State Fault Refusal :=
  .next (complete .unknown id s)

/-- NOP (R26). -/
def execNop (s : State) : Host.Outcome State Fault Refusal :=
  .next (complete (verdict {} true true none s) id s)

/-- COMMIT's effect (R28). -/
def commitEffect (s : State) : State :=
  { s with
    life := .committed
    outPins.rdy := true
    supervisor.state := if s.supervisor.state = .openWatch then .watch else s.supervisor.state }

/-- COMMIT (R28). -/
def execCommit (guard : Byte) (s : State) : Host.Outcome State Fault Refusal :=
  .next (complete (verdict { guarded := true, preCommit := true } (guardOk 0x11 guard) true none s) commitEffect s)

/-- LOCK (R31). -/
def execLock (s : State) : Host.Outcome State Fault Refusal :=
  .next (complete (verdict { passesLock := true } true true none s) (fun t => { t with locked := true }) s)

/-- UNLOCK (R32). -/
def execUnlock (guard : Byte) (s : State) : Host.Outcome State Fault Refusal :=
  .next (complete (verdict { passesLock := true, guarded := true } (guardOk 0x14 guard) true none s)
    (fun t => { t with locked := false }) s)

/-- HOLD's effect (R33). -/
def holdEffect (n : Byte) (s : State) : State :=
  { s with hold := { active := true, remaining := n.toNat, ticks := 0, alertLow := s.outPins.alertLow } }

/-- HOLD (R33). -/
def execHold (n : Byte) (s : State) : Host.Outcome State Fault Refusal :=
  .next (complete (verdict { isHold := true } true (n != 0 && n.toNat ≤ 4) none s) (holdEffect n) s)

/-- STANDBY's effect; sent again while the part is in STANDBY, it changes nothing (R164). -/
def standbyEffect (s : State) : State :=
  if s.power = .run then { s with power := .standby, divider := 0, episode := wrapInc s.episode } else s

/-- STANDBY (R164). -/
def execStandby (guard : Byte) (s : State) : Host.Outcome State Fault Refusal :=
  .next (complete
    (verdict { guarded := true } (guardOk 0x16 guard) true
      (if s.supervisor.state == .off then none else some .state) s)
    standbyEffect s)

/-- HOLD_COMMANDS_DONE (R34): stages 5 to 7 of the completion event that counts the last command of a hold.
While more commands remain, or while no hold is active, no such event occurs. -/
def execHoldCommandsDone (s : State) : Host.Outcome State Fault Refusal :=
  .next (if linkUp s && s.hold.active && s.hold.remaining == 1 then evalAlert (holdAccounting s) else s)

end Sys2Proof.Machine
end

