-- ==== Sys2Proof/Machine/Counters.lean ====
section
/-! DEFINITION. The commands of the counter banks (chapter 5): CNTSET (R87), WRAPCFG (R86), BANKSNAP (R88)
and the freeze image it writes (R89). -/

namespace Sys2Proof.Machine

/-- The bank of the counter with a number is Ready (R87). -/
def counterReady (s : State) (n : Nat) : Bool :=
  if h : n < 45 then s.units.bank (bankOf ⟨n, h⟩) == .ready else false

/-- CNTSET's effect (R87). -/
def cntsetEffect (counter : Byte) (value : Word) (s : State) : State :=
  if h : counter.toNat < 45 then
    { s with counters.value := s.counters.value.set counter.toNat value h }
  else s

/-- CNTSET (R87). -/
def execCntset (counter : Byte) (value : Word) (s : State) : Host.Outcome State Fault Refusal :=
  .next (complete
    (verdict {} true (counter.toNat < 45) (if counterReady s counter.toNat then none else some .state) s)
    (cntsetEffect counter value) s)

/-- WRAPCFG's effect (R86). -/
def wrapcfgEffect (enables : Byte) (s : State) : State :=
  { s with counters.wrapAlert := enables.setWidth 4 }

/-- WRAPCFG (R86). -/
def execWrapcfg (enables : Byte) (s : State) : Host.Outcome State Fault Refusal :=
  .next (complete (verdict {} true (enables &&& 0xF0 == 0) none s) (wrapcfgEffect enables) s)

/-- The bytes of counters `first` to `first + n - 1`, each little-endian (R89). -/
def counterBytes (s : State) (first n : Nat) : List Byte :=
  (List.range n).flatMap fun j => leBytes (counterAt s (first + j)) 4

/-- The wrap-set field of counters `first` to `first + n - 1`, in `bytes` bytes (R89). -/
def wrapBytes (s : State) (first n bytes : Nat) : List Byte :=
  leBytes (bitsOf 16 ((List.range n).map fun j => s.counters.wrapped.toList.getD (first + j) false)) bytes

/-- Bytes stored into the freeze image. -/
def freezeBytes (a : Nat) (bytes : List Byte) (s : State) : State :=
  { s with freeze := s.freeze.writeAll a bytes }

/-- A bank's slot of the freeze image: its counters and its wrap-set field (R89). -/
def snapBank (b : Bank) (s : State) : State :=
  match b with
  | .edge => freezeBytes 188 (wrapBytes s 0 16 2) (freezeBytes 8 (counterBytes s 0 16) s)
  | .dwell => freezeBytes 190 (wrapBytes s 16 16 2) (freezeBytes 72 (counterBytes s 16 16) s)
  | .link => freezeBytes 192 (wrapBytes s 32 8 1) (freezeBytes 136 (counterBytes s 32 8) s)
  | .tally => freezeBytes 193 (wrapBytes s 40 5 1) (freezeBytes 168 (counterBytes s 40 5) s)

/-- One step of BANKSNAP on a bank, if the mask selects it. -/
def onSelected (selection : Byte) (f : Bank → State → State) (b : Bank) (s : State) : State :=
  if selection.getLsbD b.index then f b s else s

/-- A step of BANKSNAP on each bank the mask selects. -/
def onSelectedBanks (selection : Byte) (f : Bank → State → State) (s : State) : State :=
  onSelected selection f .tally (onSelected selection f .link (onSelected selection f .dwell
    (onSelected selection f .edge s)))

/-- The header of the freeze image: snap tick, banks snapped, banks Running, two zero bytes (R89). -/
def snapHeader (selection : Byte) (s : State) : State :=
  freezeBytes 0 (leBytes (timestamp s) 4
    ++ [selection &&& 0x0F, (runningBanks s.units).setWidth 8, 0, 0]) s

/-- BANKSNAP's effect: slots, header, clear-wrap (R89). -/
def banksnapEffect (selection : Byte) (s : State) : State :=
  let t := snapHeader selection (onSelectedBanks selection snapBank s)
  if selection.getLsbD 4 then onSelectedBanks selection clearWraps t else t

/-- BANKSNAP (R88, R89). -/
def execBanksnap (selection : Byte) (s : State) : Host.Outcome State Fault Refusal :=
  .next (complete
    (verdict {} true (selection &&& 0x0F != 0 && selection &&& 0xE0 == 0) none s)
    (banksnapEffect selection) s)

end Sys2Proof.Machine
end

