-- ==== Sys2Proof/Machine/Grants.lean ====
section
/-! DEFINITION. Grants and unit states (chapter 4): the effective grant (R60), revocation and re-grant (R62
to R66), the moves of a bank (R69), GRANT (R61) and BANKCTL (R70 to R72). -/

namespace Sys2Proof.Machine

/-- The effective grant of the unit at a bit of the masks (R60): bits 0 to 3 the banks, bit 4 the recorder. -/
def effectiveGrant (s : State) (i : Nat) : Bool :=
  s.grantMask.getLsbD i && (!s.guardMask.getLsbD i || s.permit)

/-- The grant falls from 1 to 0: the unit had G, which is to say that it was not Locked, and has it no more. -/
def losesGrant (s : State) (u : UnitState) (i : Nat) : Bool := u != .locked && !effectiveGrant s i

/-- A bank's part of an evaluation of G (R62): revoked (R63), re-granted into Off (R66), or untouched. -/
def regrantBank (b : Bank) (s : State) : State :=
  if s.units.bank b = .locked then
    if effectiveGrant s b.index then { s with units := s.units.setBank b .off } else s
  else if effectiveGrant s b.index then s
  else clearBank b { s with units := s.units.setBank b .locked }

/-- The recorder's part of an evaluation of G (R62): revoked (R64), re-granted into Off (R66), or untouched. -/
def regrantRecorder (s : State) : State :=
  if s.units.recorder = .locked then
    if effectiveGrant s 4 then { s with units.recorder := .off } else s
  else if effectiveGrant s 4 then s
  else recorderStops { s with units.recorder := .locked }

/-- A unit whose E is 1 loses its grant in this evaluation (R65). -/
def enabledUnitRevoked (s : State) : Bool :=
  [Bank.edge, .dwell, .link, .tally].any (fun b => losesGrant s (s.units.bank b) b.index && (s.units.bank b).enabled)
    || (losesGrant s s.units.recorder 4 && s.units.recorder.enabled)

/-- An evaluation of G other than a reset's (R62): the units in ascending order, then GRANT_LOST (R65), and
COUNTER_WRAP if all four banks are left Off or Locked (R151). -/
def evaluateGrants (s : State) : State :=
  let t := regrantRecorder (regrantBank .tally (regrantBank .link (regrantBank .dwell (regrantBank .edge s))))
  clearWrapCause (if enabledUnitRevoked s then raise .grantLost t else t)

/-- GRANT's effect (R61). -/
def grantEffect (grantMask guardMask : Byte) (s : State) : State :=
  evaluateGrants { s with grantMask := grantMask.setWidth 5, guardMask := guardMask.setWidth 5 }

/-- GRANT (R61). -/
def execGrant (grantMask guardMask guard : Byte) (s : State) : Host.Outcome State Fault Refusal :=
  .next (complete
    (verdict { guarded := true, preCommit := true } (guardOk 0x10 guard)
      (grantMask &&& 0xE0 == 0 && guardMask &&& 0xE0 == 0) none s)
    (grantEffect grantMask guardMask) s)

/-- The move of a bank to a target among Off, Ready and Running (R69); a Locked bank stays Locked (R72). -/
def moveBank (b : Bank) (target : UnitState) (s : State) : State :=
  let u := s.units.bank b
  if u = .locked || u = target then s
  else
    let t := { s with units := s.units.setBank b target }
    if target = .off then clearBank b t else t

/-- The target that BANKCTL's control byte requests for a bank (R70). -/
def bankRequest (control : Byte) (b : Bank) : Option UnitState :=
  bankTarget (control.getLsbD b.index) (control.getLsbD (b.index + 4))

/-- A Locked bank has a target other than Off (R71). -/
def bankRefused (control : Byte) (s : State) (b : Bank) : Bool :=
  s.units.bank b == .locked && bankRequest control b != some .off

/-- BANKCTL's effect (R72, R151). -/
def bankctlEffect (control : Byte) (s : State) : State :=
  let move (b : Bank) (t : State) := moveBank b ((bankRequest control b).getD .off) t
  clearWrapCause (move .tally (move .link (move .dwell (move .edge s))))

/-- The four banks in order. -/
def allBanks : List Bank := [.edge, .dwell, .link, .tally]

/-- BANKCTL (R70, R71, R72). -/
def execBankctl (control : Byte) (s : State) : Host.Outcome State Fault Refusal :=
  .next (complete
    (verdict {} true (allBanks.all fun b => (bankRequest control b).isSome)
      (if allBanks.any (bankRefused control s) then some .transition else none) s)
    (bankctlEffect control) s)

end Sys2Proof.Machine
end

