-- ==== Sys2Proof/Machine/Inputs.lean ====
section
/-! DEFINITION. The timebase and the event inputs (chapter 3): TBSET (R46), INCFG (R50), the conditioners at
step 4 of a tick (R51 to R56) and DWELL counting at step 5 (R57, R78). -/

namespace Sys2Proof.Machine

/-- TBSET's effect: the new prescaler, and the divider restarts (R46). -/
def tbsetEffect (prescaler : Byte) (s : State) : State := { s with prescaler := prescaler, divider := 0 }

/-- TBSET (R46). -/
def execTbset (prescaler : Byte) (s : State) : Host.Outcome State Fault Refusal :=
  .next (complete (verdict { preCommit := true } true true none s) (tbsetEffect prescaler) s)

/-- A conditioner after an INCFG: the five fields of the configuration, and the filter restart (R50, R54). -/
def configureInput (config : Half) (c : Conditioner) : Conditioner :=
  { c with
    filter := config.setWidth 4
    inverted := config.getLsbD 4
    mode := edgeModeOf (config.extractLsb' 5 2)
    trig := config.getLsbD 7
    wake := config.getLsbD 8
    stab := 0 }

/-- INCFG's effect (R50). -/
def incfgEffect (input : Byte) (config : Half) (s : State) : State :=
  if h : input.toNat < 16 then
    { s with inputs := s.inputs.set input.toNat (configureInput config s.inputs[input.toNat]) h }
  else s

/-- INCFG (R50). -/
def execIncfg (input : Byte) (config : Half) (s : State) : Host.Outcome State Fault Refusal :=
  .next (complete (verdict {} true (input.toNat < 16 && config &&& 0xFE00 == 0) none s)
    (incfgEffect input config) s)

/-- An edge is qualified when it matches the edge mode (R55). -/
def EdgeMode.qualifies (m : EdgeMode) (rising : Bool) : Bool :=
  match m with
  | .none => false
  | .rise => rising
  | .fall => !rising
  | .both => true

/-- The candidate level: the raw level combined with the polarity (R51). -/
def Conditioner.candidate (c : Conditioner) (raw : Bool) : Bool := raw != c.inverted

/-- The candidate has persisted past the filter count: an edge occurs (R52). -/
def Conditioner.edges (c : Conditioner) (raw : Bool) : Bool :=
  c.seeded && c.candidate raw != c.level && c.filter ≤ c.stab

/-- One conditioner at a tick: seeding (R53), or the filter (R52). -/
def Conditioner.step (c : Conditioner) (raw : Bool) : Conditioner :=
  if !c.seeded then { c with level := c.candidate raw, seeded := true }
  else if c.candidate raw == c.level then { c with stab := 0 }
  else if c.filter ≤ c.stab then { c with level := c.candidate raw, stab := 0 }
  else { c with stab := c.stab + 1 }

/-- EDGE counter n as a counter number (R77). -/
def edgeCounter (n : Fin 16) : Fin 45 := ⟨n.val, by omega⟩

/-- DWELL counter 16 + n as a counter number (R78). -/
def dwellCounter (n : Fin 16) : Fin 45 := ⟨16 + n.val, by omega⟩

/-- Action 2 of a qualified edge: an EVENT record is offered (R56, R97). -/
def offerEvent (n : Fin 16) (rising : Bool) (s : State) : State :=
  if s.inputs[n].trig && recording s && s.recorder.config.events then
    let count := if s.units.edge = .running then s.counters.value[edgeCounter n].setWidth 16 else 0
    offer (.event (BitVec.ofNat 4 n.val) rising count (timestamp s)) s
  else s

/-- A qualified edge: the EDGE count, then the trigger (R56). -/
def qualifiedEdge (n : Fin 16) (rising : Bool) (s : State) : State :=
  offerEvent n rising (offerCount (edgeCounter n) s)

/-- Input n at step 4 of a tick (R51 to R56). -/
def inputStep (ev : Half) (n : Fin 16) (s : State) : State :=
  let c := s.inputs[n]
  let raw := ev.getLsbD n.val
  let t := { s with inputs := s.inputs.set n (c.step raw) }
  if c.edges raw && c.mode.qualifies (c.candidate raw) then qualifiedEdge n (c.candidate raw) t else t

/-- Step 4 of a tick: the conditioners in ascending input order (R51). -/
def inputsStep (ev : Half) (s : State) : State := allInputs.foldl (fun t n => inputStep ev n t) s

/-- Step 5 of a tick: one DWELL count for each input at conditioned level 1 (R78). -/
def dwellStep (s : State) : State :=
  allInputs.foldl (fun t n => if t.inputs[n].level then offerCount (dwellCounter n) t else t) s

/-- INPUT_EDGE (R52): the part of step 4 of a tick that is one input's, at a tick at which its edge occurs;
no such event occurs otherwise. -/
def execInputEdge (n : Fin 16) (raw : Bool) (s : State) : Host.Outcome State Fault Refusal :=
  .next (if ticking s && s.inputs[n].edges raw
    then inputStep (if raw then BitVec.allOnes 16 else 0) n s else s)

end Sys2Proof.Machine
end

