-- ==== Sys2Proof/Machine/Supervisor.lean ====
section
/-! DEFINITION. The host supervisor (chapter 10): step 3 of a tick, the commands WDSET, WDKICK and WDOFF,
and the rows WD_WARN, WD_FIRED and PULSE_END, which are step 3 at the ticks where they come about. -/

namespace Sys2Proof.Machine

/-- The supervisor is running: OPEN_WATCH or WATCH (R155). -/
def Supervisor.running (w : Supervisor) : Bool := w.state != .off

/-- The supervisor counts at step 3: running, and not in PULSING (R159). -/
def Supervisor.counts (w : Supervisor) : Bool := w.running && w.phase != .pulsing

/-- A SUPERVISOR record is offered if the recorder is Running and its SUPERVISOR bit is on (R162). -/
def offerSupervisor (fired : Bool) (s : State) : State :=
  if recording s && s.recorder.config.supervisor then
    offer (.supervisor fired s.supervisor.tally (BitVec.ofNat 8 s.supervisor.e) (timestamp s)) s
  else s

/-- The half-time warning (R159). -/
def warnHost (s : State) : State :=
  offerSupervisor false (raise .wdWarn { s with supervisor.phase := .warned })

/-- The supervisor fires (R160). -/
def fireHost (s : State) : State :=
  let t := { s with
    supervisor := { s.supervisor with phase := .pulsing, pulse := s.supervisor.w, tally := satInc s.supervisor.tally }
    outPins.hrstLow := true }
  offerSupervisor true (raise .wdFired (offerCount 39 t))

/-- One tick of the pulse (R161). -/
def pulseStep (s : State) : State :=
  let w := s.supervisor
  if w.pulse ≤ 1 then
    { s with supervisor := { w with pulse := 0, count := 0, phase := .quiet }, outPins.hrstLow := false }
  else { s with supervisor.pulse := w.pulse - 1 }

/-- Step 3 of a tick (R159, R160, R161). -/
def supervisorStep (s : State) : State :=
  let w := s.supervisor
  if !w.running then s
  else if w.phase == .pulsing then pulseStep s
  else
    let t := { s with supervisor.count := w.count + 1 }
    if w.count + 1 = 2 ^ (w.e - 1) then (if w.warn then warnHost t else t)
    else if w.count + 1 = 2 ^ w.e then fireHost t
    else t

/-- Step 3 of the next tick gives the warning (R159). -/
def warnDue (s : State) : Bool :=
  s.supervisor.counts && s.supervisor.warn && s.supervisor.count + 1 == 2 ^ (s.supervisor.e - 1)

/-- Step 3 of the next tick fires (R159, R160). -/
def fireDue (s : State) : Bool :=
  s.supervisor.counts && s.supervisor.count + 1 == 2 ^ s.supervisor.e
    && s.supervisor.count + 1 != 2 ^ (s.supervisor.e - 1)

/-- Step 3 of the next tick ends the pulse (R161). -/
def pulseEndDue (s : State) : Bool :=
  s.supervisor.running && s.supervisor.phase == .pulsing && s.supervisor.pulse ≤ 1

/-- WDSET's operands are in range (R156). -/
def wdsetOperands (e w flags : Byte) : Bool :=
  10 ≤ e.toNat && e.toNat ≤ 24 && w != 0 && flags &&& 0xFE == 0

/-- WDSET's effect (R156). -/
def wdsetEffect (e w flags : Byte) (s : State) : State :=
  let t := { s with supervisor := { s.supervisor with e := e.toNat, w := w, warn := flags.getLsbD 0 } }
  if s.supervisor.running then { t with supervisor := { t.supervisor with count := 0, phase := .quiet } } else t

/-- WDSET (R156). -/
def execWdset (e w flags : Byte) (s : State) : Host.Outcome State Fault Refusal :=
  .next (complete
    (verdict { preCommit := true } true (wdsetOperands e w flags)
      (if s.supervisor.phase == .pulsing then some .state else none) s)
    (wdsetEffect e w flags) s)

/-- WDKICK's effect (R157). -/
def wdkickEffect (s : State) : State :=
  offerCount 38 { s with supervisor := { s.supervisor with count := 0, phase := .quiet, state := .watch } }

/-- WDKICK (R157). -/
def execWdkick (guard : Byte) (s : State) : Host.Outcome State Fault Refusal :=
  .next (complete
    (verdict { guarded := true } (guardOk 0x71 guard) true
      (if s.supervisor.state == .off || s.supervisor.phase == .pulsing then some .state else none) s)
    wdkickEffect s)

/-- WDOFF's effect: in OFF it changes nothing (R158). -/
def wdoffEffect (s : State) : State :=
  if s.supervisor.state = .openWatch then
    { s with supervisor := { s.supervisor with state := .off, phase := .quiet, count := 0, pulse := 0 } }
  else s

/-- WDOFF (R158). -/
def execWdoff (guard : Byte) (s : State) : Host.Outcome State Fault Refusal :=
  .next (complete
    (verdict { guarded := true, preCommit := true } (guardOk 0x72 guard) true
      (if s.supervisor.state == .watch || s.supervisor.phase == .pulsing then some .state else none) s)
    wdoffEffect s)

/-- WD_WARN (R159): step 3 of a tick at which the warning is due; no such event occurs otherwise. -/
def execWdWarn (s : State) : Host.Outcome State Fault Refusal :=
  .next (if ticking s && warnDue s then supervisorStep s else s)

/-- WD_FIRED (R160): step 3 of a tick at which the firing is due; no such event occurs otherwise. -/
def execWdFired (s : State) : Host.Outcome State Fault Refusal :=
  .next (if ticking s && fireDue s then supervisorStep s else s)

/-- PULSE_END (R161): step 3 of the tick that ends the pulse; no such event occurs otherwise. -/
def execPulseEnd (s : State) : Host.Outcome State Fault Refusal :=
  .next (if ticking s && pulseEndDue s then supervisorStep s else s)

end Sys2Proof.Machine
end

