-- ==== Sys2Proof/Machine/Tick.lean ====
section
/-! DEFINITION. The tick (R44) and what comes about inside one: PERMIT_CHANGE (R48), SAMPLING_POINT (R114)
and HOLD_TICK_LIMIT (R35). WD_WARN, WD_FIRED and PULSE_END stand in Machine/Supervisor.lean, INPUT_EDGE in
Machine/Inputs.lean. -/

namespace Sys2Proof.Machine

/-- Step 2 of a tick recognizes a permit change at this sample (R48). -/
def permitDue (prm : Bool) (s : State) : Bool := prm != s.permit && s.permitStab == 7

/-- Step 2 of a tick: the PRM filter (R48). -/
def permitStep (prm : Bool) (s : State) : State :=
  if prm = s.permit then { s with permitStab := 0 }
  else if s.permitStab = 7 then evaluateGrants { s with permit := prm, permitStab := 0 }
  else { s with permitStab := s.permitStab + 1 }

/-- Step 7 of a tick (R35, R36). -/
def holdStep (s : State) : State :=
  if s.hold.active then
    if s.hold.ticks = 255 then endHold s else { s with hold.ticks := s.hold.ticks + 1 }
  else s

/-- Steps 1 to 9 of a tick at which PRM and EV0 to EV15 are sampled at these levels (R44); the divider count
starts again from zero (R45). -/
def tickSteps (prm : Bool) (ev : Half) (s : State) : State :=
  let s1 := { s with timebase := s.timebase + 1, divider := 0, inPins.prm := prm, inPins.ev := ev }
  let s2 := permitStep prm s1
  let s3 := supervisorStep s2
  let s4 := inputsStep ev s3
  let s5 := dwellStep s4
  let s6 := sampleStep s5
  let s7 := holdStep s6
  let s8 := drain s7
  evalAlert s8

/-- TICK (R44). No tick occurs in STANDBY, in INIT, while RST# is held low or without supply (R45, R165). -/
def execTick (prm : Bool) (ev : Half) (s : State) : Host.Outcome State Fault Refusal :=
  .next (if ticking s then tickSteps prm ev s else s)

/-- PERMIT_CHANGE (R48): step 2 of a tick that recognizes a change; no such event occurs otherwise. -/
def execPermitChange (prm : Bool) (s : State) : Host.Outcome State Fault Refusal :=
  .next (if ticking s && permitDue prm s then permitStep prm s else s)

/-- Step 6 of the next tick is a sampling point (R114). -/
def sampleDue (s : State) : Bool := recording s && s.recorder.countdown == some 1

/-- SAMPLING_POINT (R114): step 6 of a tick at which the countdown reaches 0; no such event occurs otherwise. -/
def execSamplingPoint (s : State) : Host.Outcome State Fault Refusal :=
  .next (if ticking s && sampleDue s then sampleStep s else s)

/-- HOLD_TICK_LIMIT (R35): the end of a hold at step 7 of a tick, with steps 8 and 9, which carry out its end
processing (R36); no such event occurs otherwise. -/
def execHoldTickLimit (s : State) : Host.Outcome State Fault Refusal :=
  .next (if ticking s && s.hold.active && s.hold.ticks == 255 then evalAlert (drain (holdStep s)) else s)

end Sys2Proof.Machine
end

