-- ==== Sys2Proof/Machine/Power.lean ====
section
/-! DEFINITION. Wake (R166, R167), the three resets (R168 to R173), SYSRESET (R170), and one REFCLK period
(R45, R168), which is what the machine does when no command waits. -/

namespace Sys2Proof.Machine

/-- The parser at the release of RST# or at the end of INIT: IGNORE while CS# is low in SPI (R20). -/
def parserAtRelease (i2c csLow : Bool) : Parser := if !i2c && csLow then .ignore else .idle

/-- The value on the line while the link ignores all traffic: 00h in SPI while CS# is low, else nothing
driven (R7). -/
def ignoredOut (i2c csLow : Bool) : Option Byte := if !i2c && csLow then some 0 else none

/-- Every quantity at its reset value but those a pin reset and a command reset keep: capture memory, the
directory and the leaf sequence (R172, section 11.5); the queue of commands and the input pins are no
quantities of the part. -/
def resetKeeping (s : State) : State :=
  { State.reset with
    pending := s.pending
    inPins := s.inPins
    straps := s.straps
    resetCount := satInc s.resetCount
    capture := s.capture
    directory := s.directory
    recorder := { State.reset.recorder with leafSeq := s.recorder.leafSeq } }

/-- The command reset (R170): the straps are not sampled, and the parser stays in IGNORE (R12, R20). -/
def commandReset (prm : Bool) (s : State) : State :=
  { resetKeeping s with
    inPins := { s.inPins with prm := prm }
    resetCause := .command
    permit := prm
    link := { s.link with parser := .ignore, latch := [], latchPos := 0 } }

/-- SYSRESET (R170): accepted, it performs the command reset, and stages 3 to 7 are not carried out (R22). -/
def execSysreset (guard : Byte) (prm : Bool) (s : State) : Host.Outcome State Fault Refusal :=
  .next (
    let r := verdict { guarded := true } (guardOk 0x12 guard) true none s
    if linkUp s && r == .done then commandReset prm s else complete r id s)

/-- The pins' levels at an event of a reset. -/
def setPins (p : PinLevels) (s : State) : State :=
  { s with inPins :=
      { s.inPins with ifsel := p.ifsel, adr := p.adr, prm := p.prm, csLow := p.csLow, rstLow := p.rstLow } }

/-- The link as a pin reset or INIT leaves it at entry into OPEN (R20). -/
def linkAtRelease (i2c csLow : Bool) : Link :=
  { State.reset.link with parser := parserAtRelease i2c csLow, out := ignoredOut i2c csLow }

/-- The release of RST# after a pin reset (R169). -/
def pinRelease (p : PinLevels) (s : State) : State :=
  { resetKeeping (setPins p s) with
    straps := { i2c := p.ifsel, adrHigh := p.adr }
    resetCause := .pin
    permit := p.prm
    link := linkAtRelease p.ifsel p.csLow }

/-- Entry into OPEN at the end of INIT, every quantity at its power-on reset value (R168). -/
def openAfterInit (straps : Straps) (p : PinLevels) (s : State) : State :=
  { State.reset with
    pending := s.pending
    inPins := (setPins p s).inPins
    straps := straps
    permit := p.prm
    link := linkAtRelease straps.i2c p.csLow }

/-- The pins' levels while the link ignores all traffic, and with CS# what the part drives on SDO (R7). -/
def showPins (p : PinLevels) (s : State) : State :=
  { setPins p s with link := { s.link with out := ignoredOut s.straps.i2c p.csLow } }

/-- The sweep completes: all of capture memory and the directory is 0, and the part enters OPEN unless RST#
is low (R168). -/
def sweepEnds (p : PinLevels) (s : State) : State :=
  if p.rstLow then
    { showPins p s with capture := [], directory := [], sweep := Config.sweepPeriods }
  else openAfterInit s.straps p s

/-- The rising edge of RST#: it ends a pin reset (R169), or it ends an INIT whose sweep is complete, the
straps sampled again (R168). While the sweep runs it shows the pins alone (R168). In OPEN and COMMITTED RST#
is high already, and without supply there is no part: no such event (notes/assumptions/13.md). -/
def rstRises (p : PinLevels) (s : State) : State :=
  match s.life with
  | .heldInReset => pinRelease p s
  | .init =>
    if Config.sweepPeriods ≤ s.sweep then openAfterInit { i2c := p.ifsel, adrHigh := p.adr } p s else showPins p s
  | _ => s

/-- PIN_RESET_RELEASE (R169). -/
def execPinResetRelease (p : PinLevels) (s : State) : Host.Outcome State Fault Refusal :=
  .next (rstRises p s)

/-- RELEASE_OF_RST_IN_INIT (R168). -/
def execReleaseOfRstInInit (p : PinLevels) (s : State) : Host.Outcome State Fault Refusal :=
  .next (rstRises p s)

/-- The start of a pin reset: RDY low, ALERT# and HRST# released, the parser's state discarded (R169, R20). A
hold ends here, at once and without end processing (R38), and the deferred sampling point is dropped (R173).
Every other quantity takes its pin-reset value at the release. -/
def pinAssert (s : State) : State :=
  { s with
    life := .heldInReset
    hold := State.reset.hold
    recorder := { s.recorder with deferred := false, missed := 0 }
    inPins.rstLow := true
    outPins := { rdy := false, alertLow := false, hrstLow := false }
    link := { s.link with
      parser := .idle, transfer := .none, out := ignoredOut s.straps.i2c s.inPins.csLow, ack := false } }

/-- PIN_RESET_ASSERT (R169): it begins in any life-cycle state other than INIT; RST# low during INIT is no
pin reset, and the pin's level is all that changes (R168). -/
def execPinResetAssert (s : State) : Host.Outcome State Fault Refusal :=
  .next (if linkUp s then pinAssert s else { s with inPins.rstLow := true })

/-- SWEEP_COMPLETE (R168): no such event occurs unless a sweep is in progress. -/
def execSweepComplete (p : PinLevels) (s : State) : Host.Outcome State Fault Refusal :=
  .next (if s.life = .init && s.sweep < Config.sweepPeriods then sweepEnds p s else s)

/-- POWER_ON_RESET (R168): the straps are sampled, and INIT begins with the sweep at its start, whatever
state the part was in. -/
def execPowerOnReset (p : PinLevels) (ev : Half) (s : State) : Host.Outcome State Fault Refusal :=
  .next { State.reset with
    pending := s.pending
    inPins := { (setPins p s).inPins with ev := ev }
    straps := { i2c := p.ifsel, adrHigh := p.adr }
    life := .init
    sweep := 0
    capture := s.capture
    directory := s.directory
    link := { State.reset.link with out := ignoredOut p.ifsel p.csLow } }

/-- LOSS_OF_SUPPLY (R168): RDY low, ALERT# and HRST# released, and the part holds nothing: its registers
stand at their reset values here, and no event can read them before the next power-on reset. -/
def execLossOfSupply (s : State) : Host.Outcome State Fault Refusal :=
  .next { State.reset with
    pending := s.pending
    inPins := s.inPins
    life := .unpowered
    sweep := 0
    capture := s.capture
    directory := s.directory }

/-- The lowest-numbered member of a set of inputs, if there is one (R166). -/
def lowestInput (x : Half) : Option (Fin 16) := allInputs.find? fun n => x.getLsbD n.val

/-- The inputs whose WAKE field is on (R58). -/
def wakeInputs (s : State) : Half := bitsOf 16 (s.inputs.toList.map Conditioner.wake)

/-- The wake event (R167). -/
def wakeUp (host : Bool) (input : BitVec 4) (s : State) : State :=
  let t := { s with power := .run, divider := 0 }
  let t := if recording t then offer (.resume host input t.episode (timestamp t)) t else t
  evalAlert (drain t)

/-- WAKE (R166): the start of a transaction while none is open, or else a change of a WAKE-enabled input,
ends STANDBY. In RUN, and without a source that is watched, no wake occurs (R58). -/
def execWake (host : Bool) (changed : Half) (s : State) : Host.Outcome State Fault Refusal :=
  .next (
    let t := { s with inPins.ev := s.inPins.ev ^^^ changed }
    if linkUp s && s.power == .standby then
      if host && s.link.parser == .idle then wakeUp true 0 t
      else match lowestInput (changed &&& wakeInputs s) with
        | some n => wakeUp false (BitVec.ofNat 4 n.val) t
        | none => t
    else t)

/-- The sweep clears one byte, capture memory first and then the directory (R168). -/
def sweepByte (s : State) : State :=
  if s.sweep < Config.captureBytes then { s with capture := s.capture.write s.sweep 0, sweep := s.sweep + 1 }
  else { s with directory := s.directory.write (s.sweep - Config.captureBytes) 0, sweep := s.sweep + 1 }

/-- One REFCLK period, in which nothing arrives from outside. In INIT the sweep clears one more byte (R168).
In RUN the tick divider counts, and at P + 1 a tick occurs, which samples the pins at the levels they last
showed (R45). Otherwise the part does nothing. -/
def refclkPeriod (s : State) : State :=
  match s.life with
  | .init =>
    if s.sweep + 1 < Config.sweepPeriods then sweepByte s
    else if s.sweep < Config.sweepPeriods then
      sweepEnds { ifsel := s.inPins.ifsel, adr := s.inPins.adr, prm := s.inPins.prm,
                  csLow := s.inPins.csLow, rstLow := s.inPins.rstLow } s
    else s
  | _ =>
    if !ticking s then s
    else if s.divider < s.prescaler.toNat then { s with divider := s.divider + 1 }
    else tickSteps s.inPins.prm s.inPins.ev s

end Sys2Proof.Machine
end

