-- ==== Sys2Proof/Machine/RecorderCommands.lean ====
section
/-! DEFINITION. The commands of the recorder (chapter 7): RECCTL (R106 to R109), RECCFG (R105), RELEASE
(R127), NOTEMARK (R128), SEALNOW (R129) and MARK (R117). -/

namespace Sys2Proof.Machine

/-- The start entry is an operand of RECCTL: the recorder is Off and the target is Ready or Running (R106). -/
def startIsOperand (target : UnitState) (s : State) : Bool :=
  s.units.recorder == .off && target != .off

/-- The entry at which the resolution of a start entry finds a STORE in range, if it does (R106). -/
def startEntry (start : Byte) (s : State) : Option (BitVec 6) :=
  if start.toNat < 64 then
    match resolveEntry s.directory (start.setWidth 6) with
    | .arrive e => some e
    | _ => none
  else none

/-- RECCTL's operands are in range (R106). -/
def recctlOperands (target start : Byte) (s : State) : Bool :=
  match targetOf target with
  | none => false
  | some t => !startIsOperand t s || (startEntry start s).isSome

/-- Check 6 of RECCTL: the result where it fails (R73, R106). -/
def recctlStateFail (target : Byte) (s : State) : Option Result :=
  match targetOf target with
  | none => none
  | some t =>
    if s.units.recorder = .locked then (if t = .off then none else some .transition)
    else if s.units.recorder = .ready && t = .running && !s.recorder.cursor.placed then some .state
    else none

/-- RECCTL's effect (R107 to R109). -/
def recctlEffect (target start : Byte) (s : State) : State :=
  match targetOf target with
  | none => s
  | some t =>
    match s.units.recorder, t with
    | .off, .ready | .off, .running =>
      match startEntry start s with
      | some e => recorderStarts e t s
      | none => s
    | .ready, .running =>
      { s with units.recorder := .running, recorder.countdown := some s.recorder.config.interval }
    | .running, .ready => { s with units.recorder := .ready, recorder.countdown := none }
    | .ready, .off | .running, .off =>
      let u := recorderStops s
      { u with units.recorder := .off }
    | _, _ => s

/-- RECCTL (R106). -/
def execRecctl (target start : Byte) (s : State) : Host.Outcome State Fault Refusal :=
  .next (complete
    (verdict {} true (recctlOperands target start s) (recctlStateFail target s) s)
    (recctlEffect target start) s)

/-- RECCFG's operands are in range (R105). -/
def reccfgOperands (interval : BitVec 24) (kinds k : Byte) (slots : Vector Byte 8) : Bool :=
  interval != 0 && kinds &&& 0xF0 == 0 && k.toNat ≤ 8 && !(kinds.getLsbD 1 && k == 0)
    && (slots.toList.take k.toNat).all fun c => c.toNat < 45

/-- RECCFG's effect (R105). -/
def reccfgEffect (interval : BitVec 24) (kinds k : Byte) (slots : Vector Byte 8) (s : State) : State :=
  { s with recorder.config :=
      { interval := interval, snap := kinds.getLsbD 0, extended := kinds.getLsbD 1,
        events := kinds.getLsbD 2, supervisor := kinds.getLsbD 3, k := k.toNat, slots := slots } }

/-- RECCFG (R105). -/
def execReccfg (interval : BitVec 24) (kinds k : Byte) (slots : Vector Byte 8) (s : State) :
    Host.Outcome State Fault Refusal :=
  .next (complete
    (verdict {} true (reccfgOperands interval kinds k slots)
      (if s.units.recorder.enabled then some .state else none) s)
    (reccfgEffect interval kinds k slots) s)

/-- The named leaf is the leaf being written (R127). -/
def beingWritten (s : State) (leaf : Byte) : Bool :=
  s.recorder.cursor.placed && !s.recorder.cursor.blocked && s.recorder.cursor.leaf == leaf

/-- RELEASE's effect (R127). -/
def releaseEffect (leaf : Byte) (s : State) : State :=
  if isSealed s leaf then
    let t := writeLeaf leaf 240 (List.replicate 16 0) s
    if s.recorder.cursor.placed && s.recorder.cursor.blocked && s.recorder.cursor.leaf == leaf then leafEntry t
    else t
  else s

/-- RELEASE (R127). -/
def execRelease (leaf : Byte) (s : State) : Host.Outcome State Fault Refusal :=
  .next (complete (verdict {} true true (if beingWritten s leaf then some .state else none) s)
    (releaseEffect leaf) s)

/-- NOTEMARK's effect (R128): NOTIFY is set, and bits 7 to 2 of byte 240, which a host can have written, keep
their values. That they are kept, and not written as 0, is the model's choice (DESIGN CHOICE,
notes/assumptions/14.md). -/
def notemarkEffect (leaf : Byte) (s : State) : State := writeLeaf leaf 240 [leafByte s leaf 240 ||| 2] s

/-- NOTEMARK (R128). -/
def execNotemark (leaf : Byte) (s : State) : Host.Outcome State Fault Refusal :=
  .next (complete (verdict {} true true none s) (notemarkEffect leaf) s)

/-- SEALNOW finds a leaf to seal (R129). -/
def canSeal (s : State) : Bool :=
  s.recorder.cursor.placed && !s.recorder.cursor.blocked && s.recorder.cursor.offset != 0

/-- SEALNOW (R129). -/
def execSealnow (s : State) : Host.Outcome State Fault Refusal :=
  .next (complete (verdict {} true true (if canSeal s then none else some .state) s) sealLeaf s)

/-- MARK's effect: the offer and the drain, within the same stage (R117). -/
def markEffect (cls : Byte) (tag : Half) (s : State) : State := drain (offer (.mark cls tag (timestamp s)) s)

/-- MARK (R117). -/
def execMark (cls : Byte) (tag : Half) (s : State) : Host.Outcome State Fault Refusal :=
  .next (complete (verdict {} true true (if recording s then none else some .state) s) (markEffect cls tag) s)

end Sys2Proof.Machine
end

