-- ==== Sys2Proof/Machine/Window.lean ====
section
/-! DEFINITION. The window unit (chapter 8): WINSET (R132), the walks (R133, R134), reading (R136) and
writing (R137 to R139). -/

namespace Sys2Proof.Machine

/-- The first byte of a walk (R132). -/
def walkStart (w : Walk) (start : Half) : Half :=
  match w with
  | .seals => (start <<< 8) + 240
  | _ => start

/-- WINSET's operands are in range (R132). -/
def winsetOperands (space walk : Byte) (start stop : Half) : Bool :=
  match spaceOf space, walkOf walk with
  | some sp, some .seals => sp == .capture && stop.toNat ≤ 255 && start.toNat ≤ stop.toNat
  | some sp, some _ => stop.toNat < sp.size && start.toNat ≤ stop.toNat
  | _, _ => false

/-- WINSET's effect (R132). -/
def winsetEffect (space walk : Byte) (start stop : Half) (s : State) : State :=
  match spaceOf space, walkOf walk with
  | some sp, some wk =>
    { s with window :=
        { s.window with space := sp, walk := wk, start := start, stop := stop,
                        ptr := walkStart wk start, exhausted := false } }
  | _, _ => s

/-- WINSET (R132). -/
def execWinset (space walk : Byte) (start stop : Half) (s : State) : Host.Outcome State Fault Refusal :=
  .next (complete (verdict {} true (winsetOperands space walk start stop) none s)
    (winsetEffect space walk start stop) s)

/-- The window after a transfer at its pointer (R133, R134). -/
def Window.moved (w : Window) : Window :=
  match w.walk with
  | .wrap => { w with ptr := if w.ptr.toNat < w.stop.toNat then w.ptr + 1 else w.start }
  | .oneshot => if w.ptr.toNat < w.stop.toNat then { w with ptr := w.ptr + 1 } else { w with exhausted := true }
  | .seals =>
    if w.ptr.toNat % 256 < 255 then { w with ptr := w.ptr + 1 }
    else if w.ptr.toNat / 256 < w.stop.toNat then { w with ptr := w.ptr + 241 }
    else { w with ptr := walkStart .seals w.start }

/-- The window is exhausted: only ONESHOT uses the flag (R131, R133). -/
def Window.spent (w : Window) : Bool := w.walk == .oneshot && w.exhausted

/-- The pointer is an address of the window's space. -/
def Window.inSpace (w : Window) : Bool := w.ptr.toNat < w.space.size

/-- The store that a space shows (R131). -/
def spaceMemory (sp : Space) (s : State) : Memory :=
  match sp with
  | .capture => s.capture
  | .directory => s.directory
  | .freeze => s.freeze

/-- A payload byte of a read segment that delivers nothing of the space: 00h (R136, R139). -/
def readsNothing (s : State) : Bool := s.window.closed || s.locked || s.window.spent

/-- The value of the next payload byte of a read segment (R136, R139). -/
def windowValue (s : State) : Byte :=
  if readsNothing s then 0 else (spaceMemory s.window.space s).read s.window.ptr.toNat

/-- What else happens when a payload byte is delivered: the transfer with its count, or the LOCKED result
that closes the segment (R136, R139, R80). -/
def windowDelivers (s : State) : State :=
  if s.window.closed then s
  else if s.locked then { s with lastResult := .locked, window.closed := true }
  else if s.window.spent then s
  else evalAlert (offerCount 36 { s with window := s.window.moved })

/-- The value is fixed on the line (R3). -/
def fixValue (s : State) : State := { s with link.out := some (windowValue s) }

/-- The byte event of a payload byte of a WINDOW_READ segment: the value is fixed, and in I2C everything else
happens too (R3, R136). -/
def fixPayload (s : State) : Host.Outcome State Fault Refusal :=
  if !readsNothing s && !s.window.inSpace then .fault .windowOutsideSpace
  else if s.straps.i2c then .next (windowDelivers (fixValue s))
  else
    let t := fixValue s
    .next { t with window.unclocked := true }

/-- The first clock edge of a payload byte's transfer, at which in SPI everything but the value happens (R3). -/
def clockPayload (s : State) : Host.Outcome State Fault Refusal :=
  if s.straps.i2c || !s.window.unclocked then .next s
  else if !readsNothing s && !s.window.inSpace then .fault .windowOutsideSpace
  else .next (windowDelivers { s with window.unclocked := false })

/-- A byte stored in a space (R137); FREEZE is never written (R90). -/
def storeByte (sp : Space) (a : Nat) (b : Byte) (s : State) : State :=
  match sp with
  | .capture => { s with capture := s.capture.write a b }
  | .directory => { s with directory := s.directory.write a b }
  | .freeze => s

/-- Conditions 3 to 5 of R137. -/
def writeRefused (s : State) : Bool :=
  s.window.space == .freeze || s.units.recorder.enabled || s.window.spent

/-- A byte of a WINDOW_WRITE segment, judged by the conditions of R137 in order. -/
def windowWrite (b : Byte) (s : State) : Host.Outcome State Fault Refusal :=
  if s.window.closed then .next s
  else if s.locked then .next { s with lastResult := .locked, window.closed := true }
  else if writeRefused s then .next { s with lastResult := .denied, window.closed := true }
  else if !s.window.inSpace then .fault .windowOutsideSpace
  else
    let t := storeByte s.window.space s.window.ptr.toNat b s
    .next (evalAlert (offerCount 37 { t with window := t.window.moved }))

end Sys2Proof.Machine
end

