-- ==== Sys2Proof/Machine/Link.lean ====
section
/-! DEFINITION. The host link and the segment parser (chapter 1). A byte is what the parser's state makes of
it: the rows HEADER_BYTE, CODE_BYTE, OPERAND_BYTE, SKIP_BYTE, IGNORED_BYTE, WINDOW_WRITE_BYTE and STRAY_WRITE
are all the arrival of one incoming byte, and ECHO_BYTE, STATUS_BYTE, WINDOW_READ_BYTE and STRAY_READ are all
one moment of an outgoing byte (DESIGN CHOICE, notes/assumptions/5.md). In I2C the open transfer decides which of
the two can pass (R4). -/

namespace Sys2Proof.Machine

/-- A framing error (R14). -/
def framingError (s : State) : State :=
  evalAlert (offerCount 35 (raise .frameError { s with lastResult := .framing, link.parser := .ignore }))

/-- The truncation of a command in progress (R15). -/
def truncate (s : State) : State := offerCount 35 (raise .frameError { s with lastResult := .truncated })

/-- A complete command with a known code runs as its own row does (R11). Other events are no commands. -/
def runCommand (i : Instr) (s : State) : Host.Outcome State Fault Refusal :=
  match i with
  | .nop => execNop s
  | .grant g v x => execGrant g v x s
  | .commit x => execCommit x s
  | .sysreset x prm => execSysreset x prm s
  | .lock => execLock s
  | .unlock x => execUnlock x s
  | .hold n => execHold n s
  | .standby x => execStandby x s
  | .tbset p => execTbset p s
  | .incfg n c => execIncfg n c s
  | .bankctl c => execBankctl c s
  | .banksnap c => execBanksnap c s
  | .cntset c v => execCntset c v s
  | .wrapcfg e => execWrapcfg e s
  | .recctl t e => execRecctl t e s
  | .reccfg i kinds k slots => execReccfg i kinds k slots s
  | .release l => execRelease l s
  | .notemark l => execNotemark l s
  | .sealnow => execSealnow s
  | .mark c t => execMark c t s
  | .winset sp wk a b => execWinset sp wk a b s
  | .alertmask m => execAlertmask m s
  | .alertack m => execAlertack m s
  | .wdset e w f => execWdset e w f s
  | .wdkick x => execWdkick x s
  | .wdoff x => execWdoff x s
  | _ => .next s

/-- The bytes of a complete command reach the command processor (R11); an unknown code is an unknown
command (R13). -/
def runBytes (bytes : List Byte) (s : State) : Host.Outcome State Fault Refusal :=
  match commandOf s.inPins.prm bytes with
  | some i => runCommand i s
  | none => execUnknownCommand s

/-- The parser takes a state. -/
def setParser (p : Parser) (s : State) : State := { s with link.parser := p }

/-- A window segment opens: its closed flag is clear (R131). -/
def openSegment (p : Parser) (s : State) : State :=
  { s with link.parser := p, window.closed := false, window.unclocked := false }

/-- A byte in EXPECT_HEADER is decoded as a header (R8). -/
def takeHeader (b : Byte) (s : State) : State :=
  let len : BitVec 5 := b.setWidth 5
  let more := b.getLsbD 5
  match (b.extractLsb' 6 2).toNat with
  | 0 => if len = 0 then framingError s else setParser (.collect len more []) s
  | kind =>
    if more || len != 0 then framingError s
    else if kind = 1 then openSegment .writeStream s
    else if kind = 2 then openSegment (.readStream .window false) s
    else setParser (.readStream .status false) s

/-- The code byte of a command (R10, R11, R13). -/
def takeCode (len : BitVec 5) (more : Bool) (b : Byte) (s : State) : Host.Outcome State Fault Refusal :=
  match commandLength b with
  | none => if len.toNat ≤ 1 then execUnknownCommand s else .next (setParser (.skip more (len.toNat - 1)) s)
  | some n =>
    if n ≠ len.toNat then .next (framingError s)
    else if n = 1 then runBytes [b] s
    else .next (setParser (.collect len more [b]) s)

/-- A further byte of a command; the LEN-th byte completes it (R10, R11). -/
def takeOperand (len : BitVec 5) (more : Bool) (got : List Byte) (b : Byte) (s : State) :
    Host.Outcome State Fault Refusal :=
  if len.toNat ≤ got.length + 1 then runBytes (got ++ [b]) s
  else .next (setParser (.collect len more (got ++ [b])) s)

/-- A byte of an unknown command; the last one completes it (R13). -/
def takeSkip (more : Bool) (left : Nat) (s : State) : Host.Outcome State Fault Refusal :=
  if left ≤ 1 then execUnknownCommand s else .next (setParser (.skip more (left - 1)) s)

/-- An incoming byte can pass: in I2C only in a write transfer to the part (R4, R5). -/
def takesBytes (s : State) : Bool := !s.straps.i2c || s.link.transfer == .write

/-- An outgoing byte can pass: in I2C only in a read transfer from the part (R4, R6). -/
def givesBytes (s : State) : Bool := !s.straps.i2c || s.link.transfer == .read

/-- What the link itself does as a byte arrives: in I2C the byte is acknowledged (R5); in SPI the outgoing
byte of the transfer is 00h but in an open read segment, where the segment gives it (R3). -/
def lineAtByte (s : State) : State :=
  if s.straps.i2c then { s with link.ack := true, link.out := none }
  else match s.link.parser with
    | .readStream _ _ => s
    | _ => { s with link.out := some 0 }

/-- One incoming byte (section 1.4). Outside a write transfer no byte comes in (R4). -/
def incomingByte (b : Byte) (s : State) : Host.Outcome State Fault Refusal :=
  if !linkUp s || !takesBytes s then .next s
  else
    let t := lineAtByte s
    match s.link.parser with
    | .idle => .next s
    | .expectHeader => .next (takeHeader b t)
    | .collect len more got =>
      match got with
      | [] => takeCode len more b t
      | _ => takeOperand len more got b t
    | .skip more left => takeSkip more left t
    | .writeStream => windowWrite b t
    | .readStream _ _ => .next (if s.straps.i2c then framingError t else t)
    | .ignore => .next t

/-- The echo byte, and with it in a STATUS segment the latch (R39, R40). -/
def sendEcho (kind : ReadKind) (s : State) : State :=
  let t := { s with link.out := some (echoByte s), link.parser := .readStream kind true }
  match kind with
  | .status => { t with link.latch := statusBlock s, link.latchPos := 0 }
  | .window => t

/-- The next byte of the latched status block; past byte 19 the block is latched afresh (R40, R41). -/
def sendStatus (s : State) : State :=
  if s.link.latchPos < Config.statusBytes then
    { s with link.out := some (s.link.latch.getD s.link.latchPos 0), link.latchPos := s.link.latchPos + 1 }
  else
    { s with link.out := (statusBlock s).head?, link.latch := statusBlock s, link.latchPos := 1 }

/-- The byte event of an outgoing byte (R17, R18, R19). -/
def sendByte (s : State) : Host.Outcome State Fault Refusal :=
  match s.link.parser with
  | .readStream kind false => .next (sendEcho kind s)
  | .readStream .status true => .next (sendStatus s)
  | .readStream .window true => fixPayload s
  | .idle => .next s
  | .ignore => .next { s with link.out := if s.straps.i2c then none else some 0 }
  | _ => .next (if s.straps.i2c then framingError { s with link.out := none } else { s with link.out := some 0 })

/-- The first clock edge of a transfer: only a window payload byte has an effect there, and in SPI alone (R3). -/
def clockByte (s : State) : Host.Outcome State Fault Refusal :=
  match s.link.parser with
  | .readStream .window true => clockPayload s
  | _ => .next s

/-- The master's not-acknowledge: it ends the read transfer, and SDA is released (R6). SPI has none. -/
def notAcknowledged (s : State) : State :=
  if s.straps.i2c then { s with link.transfer := .none, link.out := none } else s

/-- One moment of an outgoing byte (R3, R6). Outside a read transfer no byte goes out (R4). -/
def outgoingByte (m : ReadMoment) (s : State) : Host.Outcome State Fault Refusal :=
  if !linkUp s || !givesBytes s then .next s
  else match m with
    | .value => sendByte s
    | .clock => clockByte s
    | .nack => .next (notAcknowledged s)

/-- CS# falls or rises: observed in SPI alone (R1, R2). -/
def setCs (low : Bool) (s : State) : State :=
  if s.straps.i2c then s else { s with inPins.csLow := low }

/-- The transfer that the read/write bit of an address byte addressed to the part opens (R4). -/
def transferOf (read : Bool) : Transfer := if read then .read else .write

/-- The line at the start of a transaction, or at a repeated START that continues it: 00h in SPI (R3); the
address acknowledged in I2C, and the transfer open that the read/write bit selects (R4). -/
def lineAtStart (read : Bool) (s : State) : State :=
  { s with link := { s.link with
      transfer := if s.straps.i2c then transferOf read else .none
      out := if s.straps.i2c then none else some 0
      ack := s.straps.i2c } }

/-- A transaction's end for the parser (R9, R15): truncation in COLLECT and SKIP, then the transaction count. -/
def endTransaction (s : State) : State :=
  match s.link.parser with
  | .idle => s
  | .collect _ _ _ => evalAlert (offerCount 32 (setParser .idle (truncate s)))
  | .skip _ _ => evalAlert (offerCount 32 (setParser .idle (truncate s)))
  | _ => evalAlert (offerCount 32 (setParser .idle s))

/-- The line and CS# at the end of a transaction (R2, R3). -/
def leaveBus (s : State) : State :=
  let t := setCs false s
  { t with link := { t.link with transfer := .none, out := none, ack := false } }

/-- The end of a transaction; while the link ignores all traffic only the bus is left (R7). -/
def transactionEnds (s : State) : State := leaveBus (if linkUp s then endTransaction s else s)

/-- The start of a transaction addressed to the part (R9): in STANDBY it is first a wake (R43, R166). With a
transaction open, it is a repeated START that continues it (R4). In INIT and while RST# is held low the link
ignores it (R7), and without supply there is no part. -/
def transactionStarts (read : Bool) (s : State) : State :=
  if linkUp s then
    let t := if s.link.parser == .idle && s.power == .standby then wakeUp true 0 s else s
    let t := lineAtStart read (setCs true t)
    if s.link.parser == .idle then setParser .expectHeader t else t
  else if s.life = .unpowered then s
  else
    let t := setCs true s
    { t with link := { t.link with
        transfer := .none, out := ignoredOut t.straps.i2c t.inPins.csLow, ack := false } }

/-- The 7-bit I2C address the part answers to (R1). -/
def ownAddress (s : State) : BitVec 7 := if s.straps.adrHigh then 0x4B else 0x4A

/-- TRANSACTION_START (R9). In I2C an address that is not the part's own is no start: inside an open
transaction such a repeated START ends the transaction, and otherwise it is no business of the part (R4). -/
def execTransactionStart (a : AddressByte) (s : State) : Host.Outcome State Fault Refusal :=
  .next (if s.straps.i2c && a.address != ownAddress s then transactionEnds s else transactionStarts a.read s)

/-- TRANSACTION_END (R9). -/
def execTransactionEnd (s : State) : Host.Outcome State Fault Refusal := .next (transactionEnds s)

/-- HEADER_BYTE (R8). -/
def execHeaderByte (b : Byte) (s : State) : Host.Outcome State Fault Refusal := incomingByte b s

/-- CODE_BYTE (R10). -/
def execCodeByte (b : Byte) (s : State) : Host.Outcome State Fault Refusal := incomingByte b s

/-- OPERAND_BYTE (R10, R11). -/
def execOperandByte (b : Byte) (prm : Bool) (s : State) : Host.Outcome State Fault Refusal :=
  incomingByte b { s with inPins.prm := prm }

/-- SKIP_BYTE (R13). -/
def execSkipByte (b : Byte) (s : State) : Host.Outcome State Fault Refusal := incomingByte b s

/-- IGNORED_BYTE (R19). -/
def execIgnoredByte (b : Byte) (s : State) : Host.Outcome State Fault Refusal := incomingByte b s

/-- STRAY_WRITE (R18). -/
def execStrayWrite (b : Byte) (s : State) : Host.Outcome State Fault Refusal := incomingByte b s

/-- WINDOW_WRITE_BYTE (R137). -/
def execWindowWriteByte (b : Byte) (s : State) : Host.Outcome State Fault Refusal := incomingByte b s

/-- STRAY_READ (R18). -/
def execStrayRead (s : State) (m : ReadMoment := .value) : Host.Outcome State Fault Refusal := outgoingByte m s

/-- ECHO_BYTE (R39). -/
def execEchoByte (s : State) (m : ReadMoment := .value) : Host.Outcome State Fault Refusal := outgoingByte m s

/-- STATUS_BYTE (R41). -/
def execStatusByte (s : State) (m : ReadMoment := .value) : Host.Outcome State Fault Refusal := outgoingByte m s

/-- WINDOW_READ_BYTE (R136). -/
def execWindowReadByte (m : ReadMoment) (s : State) : Host.Outcome State Fault Refusal := outgoingByte m s

end Sys2Proof.Machine
end

