-- ==== Sys2Proof/Machine/Dispatch.lean ====
section
/-! DEFINITION. The dispatch: one arm for each row of spec/opcode_table.json, in the table's order. -/

namespace Sys2Proof.Machine

/-- The effect of a command on everything but the queue. -/
def exec (i : Instr) (s : State) : Host.Outcome State Fault Refusal :=
  match i with
  | .transactionStart address => Sys2Proof.Machine.execTransactionStart address s
  | .transactionEnd => Sys2Proof.Machine.execTransactionEnd s
  | .headerByte b => Sys2Proof.Machine.execHeaderByte b s
  | .codeByte b => Sys2Proof.Machine.execCodeByte b s
  | .operandByte b prm => Sys2Proof.Machine.execOperandByte b prm s
  | .skipByte b => Sys2Proof.Machine.execSkipByte b s
  | .ignoredByte b => Sys2Proof.Machine.execIgnoredByte b s
  | .strayRead m => Sys2Proof.Machine.execStrayRead s m
  | .strayWrite b => Sys2Proof.Machine.execStrayWrite b s
  | .echoByte m => Sys2Proof.Machine.execEchoByte s m
  | .statusByte m => Sys2Proof.Machine.execStatusByte s m
  | .windowReadByte m => Sys2Proof.Machine.execWindowReadByte m s
  | .windowWriteByte b => Sys2Proof.Machine.execWindowWriteByte b s
  | .unknownCommand => Sys2Proof.Machine.execUnknownCommand s
  | .nop => Sys2Proof.Machine.execNop s
  | .grant grantMask guardMask guard => Sys2Proof.Machine.execGrant grantMask guardMask guard s
  | .commit guard => Sys2Proof.Machine.execCommit guard s
  | .sysreset guard prm => Sys2Proof.Machine.execSysreset guard prm s
  | .lock => Sys2Proof.Machine.execLock s
  | .unlock guard => Sys2Proof.Machine.execUnlock guard s
  | .hold n => Sys2Proof.Machine.execHold n s
  | .standby guard => Sys2Proof.Machine.execStandby guard s
  | .tbset prescaler => Sys2Proof.Machine.execTbset prescaler s
  | .incfg input config => Sys2Proof.Machine.execIncfg input config s
  | .bankctl control => Sys2Proof.Machine.execBankctl control s
  | .banksnap selection => Sys2Proof.Machine.execBanksnap selection s
  | .cntset counter value => Sys2Proof.Machine.execCntset counter value s
  | .wrapcfg enables => Sys2Proof.Machine.execWrapcfg enables s
  | .recctl target start => Sys2Proof.Machine.execRecctl target start s
  | .reccfg interval kinds k slots => Sys2Proof.Machine.execReccfg interval kinds k slots s
  | .release leaf => Sys2Proof.Machine.execRelease leaf s
  | .notemark leaf => Sys2Proof.Machine.execNotemark leaf s
  | .sealnow => Sys2Proof.Machine.execSealnow s
  | .mark cls tag => Sys2Proof.Machine.execMark cls tag s
  | .winset space walk start stop => Sys2Proof.Machine.execWinset space walk start stop s
  | .alertmask mask => Sys2Proof.Machine.execAlertmask mask s
  | .alertack mask => Sys2Proof.Machine.execAlertack mask s
  | .wdset e w flags => Sys2Proof.Machine.execWdset e w flags s
  | .wdkick guard => Sys2Proof.Machine.execWdkick guard s
  | .wdoff guard => Sys2Proof.Machine.execWdoff guard s
  | .tick prm ev => Sys2Proof.Machine.execTick prm ev s
  | .permitChange prm => Sys2Proof.Machine.execPermitChange prm s
  | .wdWarn => Sys2Proof.Machine.execWdWarn s
  | .wdFired => Sys2Proof.Machine.execWdFired s
  | .pulseEnd => Sys2Proof.Machine.execPulseEnd s
  | .inputEdge input raw => Sys2Proof.Machine.execInputEdge input raw s
  | .samplingPoint => Sys2Proof.Machine.execSamplingPoint s
  | .holdTickLimit => Sys2Proof.Machine.execHoldTickLimit s
  | .holdCommandsDone => Sys2Proof.Machine.execHoldCommandsDone s
  | .wake host changed => Sys2Proof.Machine.execWake host changed s
  | .powerOnReset pins ev => Sys2Proof.Machine.execPowerOnReset pins ev s
  | .sweepComplete pins => Sys2Proof.Machine.execSweepComplete pins s
  | .pinResetAssert => Sys2Proof.Machine.execPinResetAssert s
  | .pinResetRelease pins => Sys2Proof.Machine.execPinResetRelease pins s
  | .releaseOfRstInInit pins => Sys2Proof.Machine.execReleaseOfRstInInit pins s
  | .lossOfSupply => Sys2Proof.Machine.execLossOfSupply s

end Sys2Proof.Machine
end

