-- ==== Sys2Proof/Safety.lean ====
section
/-! DEFINITION. What a good state of the ZT416 is, in the reference's own terms: one predicate for each promise
the prose makes about every moment between two events, and their conjunctions. Statements are made in these
terms. -/

namespace Sys2Proof.Safety

open Sys2Proof.Machine

/-- The rows that are events of R42. The other eight rows name what comes about INSIDE a tick or inside a
completion event; stood alone in the queue they leave the part inside that event (notes/assumptions/6.md). -/
def isEvent : Instr → Bool
  | .permitChange _ => false
  | .wdWarn => false
  | .wdFired => false
  | .pulseEnd => false
  | .inputEdge _ _ => false
  | .samplingPoint => false
  | .holdTickLimit => false
  | .holdCommandsDone => false
  | _ => true

/-- The three stores are in canonical form (R92, R102, R89). -/
abbrev StoresOk (s : State) : Prop :=
  s.capture.wf Config.captureBytes ∧ s.directory.wf Config.directoryBytes ∧ s.freeze.wf Config.freezeBytes

/-- The counters of a bank in Off or Locked are 0, and its wrap set is empty (R68). -/
abbrev IdleBanksZero (s : State) : Prop :=
  ∀ c : Fin 45, (s.units.bank (bankOf c)).idle = true →
    s.counters.value[c] = 0 ∧ s.counters.wrapped[c] = false

/-- The recorder is Off or Locked. -/
abbrev RecorderIdle (s : State) : Prop := s.units.recorder.idle = true

/-- Running has a placed cursor, Off and Locked have none, blocked implies placed, and the offset is 0 to 240
in steps of 4 (section 7.1). -/
abbrev CursorOk (s : State) : Prop :=
  (s.units.recorder = .running → s.recorder.cursor.placed = true) ∧
  (RecorderIdle s → s.recorder.cursor.placed = false) ∧
  (s.recorder.cursor.blocked = true → s.recorder.cursor.placed = true) ∧
  (s.recorder.cursor.placed = false → s.recorder.cursor.offset = 0) ∧
  s.recorder.cursor.offset ≤ Config.recordArea ∧ s.recorder.cursor.offset % 4 = 0

/-- A placed cursor stands in the run of a STORE entry that is in range (R103, R124). -/
abbrev RunOk (s : State) : Prop :=
  s.recorder.cursor.placed = true →
    entryKind s.directory s.recorder.cursor.entry = .store ∧
    runInRange s.directory s.recorder.cursor.entry = true ∧
    (entryByte s.directory s.recorder.cursor.entry 1).toNat ≤ s.recorder.cursor.leaf.toNat ∧
    s.recorder.cursor.leaf.toNat < runEnd s.directory s.recorder.cursor.entry

/-- The writer is blocked exactly on sealed leaves, and a leaf being written ends in its end marker (R93, R101,
R123). -/
abbrev LeafOk (s : State) : Prop :=
  s.recorder.cursor.placed = true →
    (s.recorder.cursor.blocked = isSealed s s.recorder.cursor.leaf) ∧
    (s.recorder.cursor.blocked = false → s.recorder.cursor.offset < Config.recordArea →
      leafByte s s.recorder.cursor.leaf s.recorder.cursor.offset = 0)

/-- The record queue holds at most eight records (R110), and none while the cursor is unplaced (R125, R126, R109). -/
abbrev QueueOk (s : State) : Prop :=
  s.recorder.queue.length ≤ Config.queueDepth ∧
  (s.recorder.cursor.placed = false → s.recorder.queue = [])

/-- The loss tally has a first-loss timestamp exactly while it is above 0, and is 0 in Off and Locked (R112, R113). -/
abbrev LossOk (s : State) : Prop :=
  (s.recorder.lossCount = 0 ↔ s.recorder.lossTime = none) ∧ (RecorderIdle s → s.recorder.lossCount = 0)

/-- The countdown runs exactly in Running (R114); a deferral stands only in a hold and never in Off or Locked (R116). -/
abbrev SamplingOk (s : State) : Prop :=
  (s.recorder.countdown.isSome = true ↔ s.units.recorder = .running) ∧
  s.recorder.countdown ≠ some 0 ∧
  (s.recorder.deferred = true → s.hold.active = true) ∧
  (s.recorder.deferred = false → s.recorder.missed = 0) ∧
  (RecorderIdle s → s.recorder.deferred = false)

/-- The recorder configuration is one that RECCFG accepts, or the reset configuration (R104, R105). -/
abbrev ConfigOk (s : State) : Prop :=
  s.recorder.config.interval ≠ 0 ∧ s.recorder.config.k ≤ 8 ∧
  (s.recorder.config.extended = true → s.recorder.config.k ≠ 0) ∧
  ∀ n ∈ slotNumbers s.recorder.config, n < 45

/-- A hold has 1 to 4 commands remaining; without one the number and the tick count are 0 (section 2.6). -/
abbrev HoldOk (s : State) : Prop :=
  (s.hold.active = true → 1 ≤ s.hold.remaining ∧ s.hold.remaining ≤ 4) ∧
  (s.hold.active = false → s.hold.remaining = 0 ∧ s.hold.ticks = 0)

/-- Positions 9 to 15 of the pending set and of the mask hold no cause (R144, R146). -/
abbrev CausesOk (s : State) : Prop := s.alerts.raised &&& 0xFE00 = 0 ∧ s.alerts.mask &&& 0xFE00 = 0

/-- The fault kind is none exactly when CHAIN_FAULT is not pending, and the entry is 0 then (R152). -/
abbrev FaultDetailOk (s : State) : Prop :=
  (s.alerts.faultKind = .none ↔ s.alerts.has .chainFault = false) ∧
  (s.alerts.faultKind = .none → s.alerts.faultEntry = 0)

/-- None of the recorder's four causes is pending while it is Off or Locked (R150), nor COUNTER_WRAP while all
four banks are (R151). -/
abbrev AutoClearOk (s : State) : Prop :=
  (RecorderIdle s → s.alerts.raised &&& recorderCauses = 0) ∧
  (banksIdle s.units = true → s.alerts.has .counterWrap = false)

/-- The supervisor's settings and counts are in their ranges (R155), and HRST# is driven low exactly in PULSING (R161). -/
abbrev SupervisorOk (s : State) : Prop :=
  10 ≤ s.supervisor.e ∧ s.supervisor.e ≤ 24 ∧ s.supervisor.w ≠ 0 ∧
  (s.supervisor.state = .off → s.supervisor.phase = .quiet ∧ s.supervisor.count = 0) ∧
  (s.supervisor.phase = .pulsing → s.supervisor.count = 2 ^ s.supervisor.e ∧ s.supervisor.pulse ≠ 0) ∧
  (s.supervisor.phase ≠ .pulsing → s.supervisor.count < 2 ^ s.supervisor.e ∧ s.supervisor.pulse = 0)

/-- RDY is high exactly in COMMITTED (R27); HRST# is low exactly in PULSING (R161), and released with ALERT#
while the link is down (R154, R163, R168). -/
abbrev PinsOk (s : State) : Prop :=
  (s.outPins.rdy = true ↔ s.life = .committed) ∧
  (linkUp s = true → (s.outPins.hrstLow = true ↔ s.supervisor.phase = .pulsing)) ∧
  (linkUp s = false → s.outPins.hrstLow = false ∧ s.outPins.alertLow = false)

/-- The supervisor never runs in STANDBY (R163, R164). -/
abbrev StandbyOk (s : State) : Prop := s.power = .standby → s.supervisor.state = .off

/-- The window stands inside the range that WINSET accepted (R132 to R134). -/
abbrev WindowOk (s : State) : Prop :=
  (s.window.walk ≠ .seals → s.window.stop.toNat < s.window.space.size ∧
    s.window.start.toNat ≤ s.window.ptr.toNat ∧ s.window.ptr.toNat ≤ s.window.stop.toNat) ∧
  (s.window.walk = .seals → s.window.space = .capture ∧ s.window.stop.toNat ≤ 255 ∧
    s.window.start.toNat ≤ s.window.ptr.toNat / 256 ∧ s.window.ptr.toNat / 256 ≤ s.window.stop.toNat ∧
    240 ≤ s.window.ptr.toNat % 256) ∧
  (s.window.exhausted = true → s.window.walk = .oneshot)

/-- In INIT and without supply the recorder is Locked and its cursor unplaced: every quantity stands at its
power-on reset value there (R168, section 11.5). -/
abbrev QuietBeforeOpen (s : State) : Prop :=
  s.life = .init ∨ s.life = .unpowered → s.units.recorder = .locked ∧ s.recorder.cursor.placed = false

/-- What every command keeps, the rows that are parts of an event among them. -/
structure Inv (s : State) : Prop where
  stores : StoresOk s
  idleBanks : IdleBanksZero s
  cursor : CursorOk s
  run : RunOk s
  leaf : LeafOk s
  queue : QueueOk s
  loss : LossOk s
  sampling : SamplingOk s
  config : ConfigOk s
  hold : HoldOk s
  causes : CausesOk s
  faultDetail : FaultDetailOk s
  autoClear : AutoClearOk s
  supervisor : SupervisorOk s
  pins : PinsOk s
  standby : StandbyOk s
  window : WindowOk s
  quiet : QuietBeforeOpen s

/-- The record queue is empty at every event boundary (R110). -/
abbrev QueueEmpty (s : State) : Prop := s.recorder.queue = []

/-- ALERT# shows what R147 and R148 say, at every event boundary. -/
abbrev AlertPinOk (s : State) : Prop :=
  linkUp s = true →
    s.outPins.alertLow = (if s.hold.active = true then s.hold.alertLow else alertWanted s)

/-! What the statements say of an event: counts, results and the parts of it that several rows share. -/

/-- The counter's bank is Running (R76). -/
abbrev Running (c : Fin 45) (s : State) : Prop := s.units.bank (bankOf c) = .running

/-- `t` holds the counters and the pending set of `e` after one count was offered to every counter of a set:
each is taken if its bank is Running (R76), joins the wrap set if it carries the counter to 0 (R85) and raises
COUNTER_WRAP then if the bank's enable is set (R86). -/
abbrev Counted (offered : Fin 45 → Bool) (e t : State) : Prop :=
  (∀ k : Fin 45, t.counters.value[k] =
    if offered k = true ∧ Running k e then e.counters.value[k] + 1 else e.counters.value[k]) ∧
  (∀ k : Fin 45, t.counters.wrapped[k] = true ↔ e.counters.wrapped[k] = true ∨
    (offered k = true ∧ Running k e ∧ e.counters.value[k] = 0xFFFFFFFF)) ∧
  t.counters.wrapAlert = e.counters.wrapAlert ∧
  t.alerts.raised = (if ∃ k : Fin 45, offered k = true ∧ Running k e ∧ e.counters.value[k] = 0xFFFFFFFF ∧
      e.counters.wrapAlert.getLsbD (bankOf k).index = true
    then e.alerts.raised ||| 0x20 else e.alerts.raised)

/-- The same of a counter that is offered several counts at one event, fewer than carry it to 0 twice. -/
abbrev CountedTimes (c : Fin 45) (n : Nat) (e t : State) : Prop :=
  let wraps := Running c e ∧ 2 ^ 32 ≤ e.counters.value[c].toNat + n
  (∀ k : Fin 45, t.counters.value[k] =
    if k = c ∧ Running c e then e.counters.value[k] + BitVec.ofNat 32 n else e.counters.value[k]) ∧
  (∀ k : Fin 45, t.counters.wrapped[k] = true ↔ e.counters.wrapped[k] = true ∨ (k = c ∧ wraps)) ∧
  t.counters.wrapAlert = e.counters.wrapAlert ∧
  t.alerts.raised = (if wraps ∧ e.counters.wrapAlert.getLsbD (bankOf c).index = true
    then e.alerts.raised ||| 0x20 else e.alerts.raised)

/-- The state after one count was offered to every counter of a set, in the terms of `Counted`. -/
def counted (offered : Fin 45 → Bool) (s : State) : State :=
  let takes (k : Fin 45) : Bool := offered k && decide (Running k s)
  let wraps (k : Fin 45) : Bool := takes k && s.counters.value[k] == 0xFFFFFFFF
  let alarm : Bool := decide (∃ k : Fin 45, wraps k = true ∧ s.counters.wrapAlert.getLsbD (bankOf k).index = true)
  { s with
    counters := { s.counters with
      value := Vector.ofFn fun k => if takes k then s.counters.value[k] + 1 else s.counters.value[k]
      wrapped := Vector.ofFn fun k => s.counters.wrapped[k] || wraps k }
    alerts := { s.alerts with raised := if alarm then s.alerts.raised ||| 0x20 else s.alerts.raised } }

/-- ALERT# as R147 and R148 set it at the end of an event. -/
abbrev PinSet (t : State) : Prop :=
  t.outPins.alertLow = (if t.hold.active = true then t.hold.alertLow else alertWanted t)

/-- The LINK counter that a command's result counts in (R23). -/
def resultCounter (r : Result) : Fin 45 := if r = .done then 33 else 34

/-- `t` is what a completion event of a command makes of `s`, where `e` is what the command's effect makes of
it and `extra` the further counters it counts in: the result (stage 3 of R22), the LINK count (stage 4), the hold
accounting (stage 5, R34), ALERT# (stage 7), and the parser's move (R12). NOTHING else differs from `e`. -/
abbrev CompletesWith (extra : Fin 45 → Bool) (r : Result) (s e t : State) : Prop :=
  Counted (fun k => k == resultCounter r || extra k) e t ∧ PinSet t ∧
  t = { e with
    lastResult := r
    counters := t.counters
    alerts := { e.alerts with raised := t.alerts.raised }
    hold :=
      if s.hold.active = true then
        if s.hold.remaining ≤ 1 then { active := false, remaining := 0, ticks := 0, alertLow := false }
        else { e.hold with remaining := s.hold.remaining - 1 }
      else e.hold
    outPins := { e.outPins with alertLow := t.outPins.alertLow }
    link := { e.link with parser := parserMovesOn e.link.parser } }

/-- A completion that counts in no further counter. -/
abbrev Completes (r : Result) (s e t : State) : Prop := CompletesWith (fun _ => false) r s e t

/-- The command is not the last that an active hold covers (R34). -/
abbrev HoldGoesOn (s : State) : Prop := s.hold.active = true → 2 ≤ s.hold.remaining

/-- The command has this effect, leaves this result and counts in its LINK counter (R23), and it is the last that the
active hold covers (R34): with the hold down to this one command, the next state is what HOLD_COMMANDS_DONE makes of the
state after stage 4 of R22, with the parser's move (R12). HoldEndEvents says what that is. -/
abbrev ClosesHold (c : Instr) (r : Result) (s e : State) : Prop :=
  ∃ t, exec .holdCommandsDone (counted (fun k => k == resultCounter r)
      { e with lastResult := r, hold := { e.hold with remaining := 1 } }) = .next t ∧
    exec c s = .next { t with link := { t.link with parser := parserMovesOn t.link.parser } }

/-- The command has this effect and leaves this result, whether or not a hold is active and ends with it. -/
abbrev Answers (c : Instr) (r : Result) (s e : State) : Prop :=
  (HoldGoesOn s ∨ (e.recorder.deferred = false ∧ e.recorder.queue = []) →
    ∃ t, exec c s = .next t ∧ Completes r s e t) ∧
  (¬HoldGoesOn s → ClosesHold c r s e)

/-- The command runs, with this effect. -/
abbrev Accepts (c : Instr) (s e : State) : Prop := Answers c .done s e

/-- The command is refused with this result, and changes nothing else (R22). -/
abbrev Refuses (c : Instr) (s : State) (r : Result) : Prop := Answers c r s s

/-- The rows that are completion events of commands (section 2.3), an unknown command among them. -/
def isCommand (c : Instr) : Bool := (commandBytes c).isSome || c == .unknownCommand

/-- The protected commands (R25). -/
def isProtected : Instr → Bool
  | .grant _ _ _ => true
  | .commit _ => true
  | .sysreset _ _ => true
  | .unlock _ => true
  | .standby _ => true
  | .wdkick _ => true
  | .wdoff _ => true
  | _ => false

/-- The pre-commit-only commands (R29). -/
def isPreCommitOnly : Instr → Bool
  | .grant _ _ _ => true
  | .tbset _ => true
  | .wdset _ _ _ => true
  | .wdoff _ => true
  | _ => false

/-- The final byte of a protected command is the complement of its code byte (R25). -/
def guardRight (c : Instr) : Bool :=
  match commandBytes c with
  | some (code :: rest) => rest.getLast? == some (~~~code)
  | _ => false

/-- LOCK and UNLOCK, which pass the first check (R21). -/
def passesLock : Instr → Bool
  | .lock => true
  | .unlock _ => true
  | _ => false

/-- HOLD, which an active hold refuses (R21). -/
def isHold : Instr → Bool
  | .hold _ => true
  | _ => false

/-- COMMIT, which COMMITTED refuses (R28). -/
def isCommit : Instr → Bool
  | .commit _ => true
  | _ => false

/-- The first four checks of R21 pass. -/
def passesFour (c : Instr) (s : State) : Bool :=
  linkUp s && (!s.locked || passesLock c) && (!isProtected c || guardRight c)
    && !(s.hold.active && (isProtected c || isHold c))
    && !(s.life == .committed && (isPreCommitOnly c || isCommit c))

/-- The parser is inside a command, which a transaction's end truncates (R15). -/
def insideCommand : Parser → Bool
  | .collect _ _ _ => true
  | .skip _ _ => true
  | _ => false

/-- In I2C a write transfer to the part is open, so that incoming bytes pass (R4, R5); in SPI they always do. -/
abbrev WriteOpen (s : State) : Prop := s.straps.i2c = true → s.link.transfer = .write

/-- In I2C a read transfer from the part is open, so that outgoing bytes pass (R4, R6); in SPI they always do. -/
abbrev ReadOpen (s : State) : Prop := s.straps.i2c = true → s.link.transfer = .read

/-- The link after an incoming byte outside a read segment: acknowledged in I2C (R5), 00h going out in SPI (R3). -/
def byteTaken (s : State) (p : Parser) : Link :=
  if s.straps.i2c then { s.link with parser := p, ack := true, out := none }
  else { s.link with parser := p, out := some 0 }

/-- `t` is what a framing error makes of `s`, the link left as `l` (R14). -/
abbrev FramedWith (l : Link) (s t : State) : Prop :=
  Counted (fun k => k == 35) { s with alerts.raised := s.alerts.raised ||| 0x100 } t ∧ PinSet t ∧
  t = { s with
    lastResult := .framing
    link := l
    counters := t.counters
    alerts := { s.alerts with raised := t.alerts.raised }
    outPins := { s.outPins with alertLow := t.outPins.alertLow } }

/-- A header that R8 accepts: a COMMAND of 1 to 31 bytes, or another kind with its other bits clear. -/
def headerOk (b : Byte) : Bool := if b.extractLsb' 6 2 == 0 then b.extractLsb' 0 5 != 0 else b.extractLsb' 0 6 == 0

/-- The pointer moves after a transfer (R133, R134). -/
def afterTransfer (w : Window) : Window :=
  match w.walk with
  | .wrap => { w with ptr := if w.ptr = w.stop then w.start else w.ptr + 1 }
  | .oneshot => if w.ptr = w.stop then { w with exhausted := true } else { w with ptr := w.ptr + 1 }
  | .seals =>
    { w with ptr :=
        if w.ptr.extractLsb' 0 8 != 255 then w.ptr + 1
        else if w.ptr.extractLsb' 8 8 != w.stop.setWidth 8
        then BitVec.ofNat 16 (256 * (w.ptr.toNat / 256 + 1) + 240) else BitVec.ofNat 16 (256 * w.start.toNat + 240) }

/-- `t` is what a transfer counted in `c` makes of `s`, the stores apart, with the link left as `l` and the window
as `w` (R136, R137, R80). -/
abbrev Transfers (c : Fin 45) (l : Link) (w : Window) (s t : State) : Prop :=
  Counted (fun k => k == c) s t ∧ PinSet t ∧
  t = { s with
    link := l
    window := w
    counters := t.counters
    alerts := { s.alerts with raised := t.alerts.raised }
    outPins := { s.outPins with alertLow := t.outPins.alertLow }
    capture := t.capture
    directory := t.directory }

/-- The numbers of the results (section 2.2). -/
def resultNumber : Result → Nat
  | .done => 0
  | .unknown => 1
  | .guard => 2
  | .state => 3
  | .operand => 4
  | .committed => 5
  | .held => 6
  | .locked => 7
  | .truncated => 8
  | .framing => 9
  | .denied => 10
  | .transition => 11

/-- The numbers of the unit states (section 4.1 and R41). -/
def unitNumber : UnitState → Nat
  | .locked => 0
  | .off => 1
  | .ready => 2
  | .running => 3

/-- The numbers of the fault kinds (section 9.6 and R41). -/
def faultNumber : FaultKind → Nat
  | .none => 0
  | .void => 1
  | .linkChain => 2
  | .range => 3
  | .endOfDirectory => 4

/-- The numbers of the supervisor's states (section 10.1 and R41). -/
def watchNumber : WdState → Nat
  | .off => 0
  | .openWatch => 1
  | .watch => 2

/-- The numbers of the supervisor's phases (section 10.1 and R41). -/
def phaseNumber : WdPhase → Nat
  | .quiet => 0
  | .warned => 1
  | .pulsing => 2

/-- The numbers of the reset causes (section 11.3 and R41). -/
def resetNumber : ResetCause → Nat
  | .por => 1
  | .pin => 2
  | .command => 3

/-- The codes of WINSET's space operand (R132). -/
def spaceCode : Space → Byte
  | .capture => 0
  | .directory => 1
  | .freeze => 2

/-- The codes of WINSET's walk operand (R132). -/
def walkCode : Walk → Byte
  | .wrap => 0
  | .oneshot => 1
  | .seals => 2

/-- The recorder after a move to Off or a revocation (R109, R64). -/
def recorderOff (r : Recorder) : Recorder :=
  { r with
    queue := [], lossCount := 0, lossTime := none, countdown := none, deferred := false, missed := 0
    cursor := { r.cursor with placed := false, blocked := false, offset := 0 } }

/-- Without the recorder's four causes and without a fault detail (R150). -/
def withoutRecorderCauses (a : Alerts) : Alerts :=
  { a with raised := a.raised &&& 0xFFF0, faultKind := .none, faultEntry := 0 }

/-- COUNTER_WRAP leaves the pending set if all four banks are Off or Locked (R151). -/
def withoutIdleWrap (u : Units) (a : Alerts) : Alerts :=
  if banksIdle u then { a with raised := a.raised &&& 0xFFDF } else a

/-- The counters with those of some banks cleared and their wrap sets emptied. -/
def clearedBanks (cleared : Bank → Bool) (c : Counters) : Counters :=
  { c with
    value := Vector.ofFn fun k => if cleared (bankOf k) then 0 else c.value[k]
    wrapped := Vector.ofFn fun k => c.wrapped[k] && !cleared (bankOf k) }

/-- What an evaluation of G makes of a state, all units at once (R60 to R66, R151): a unit without G is Locked, a
unit that regains it is Off, a bank that loses it is cleared, a recorder that loses it stops, GRANT_LOST is raised
if an enabled unit lost it. -/
def afterEvaluation (s : State) : State :=
  let g (i : Nat) : Bool := s.grantMask.getLsbD i && (!s.guardMask.getLsbD i || s.permit)
  let unit (u : UnitState) (i : Nat) : UnitState := if g i then (if u = .locked then .off else u) else .locked
  let lost (u : UnitState) (i : Nat) : Bool := u != .locked && !g i
  let units : Units :=
    { edge := unit s.units.edge 0, dwell := unit s.units.dwell 1, link := unit s.units.link 2
      tally := unit s.units.tally 3, recorder := unit s.units.recorder 4 }
  let alerts := if lost s.units.recorder 4 then withoutRecorderCauses s.alerts else s.alerts
  let enabledLost := [(s.units.edge, 0), (s.units.dwell, 1), (s.units.link, 2), (s.units.tally, 3),
    (s.units.recorder, 4)].any fun x => (x.1 == .ready || x.1 == .running) && !g x.2
  { s with
    units := units
    counters := clearedBanks (fun b => lost (s.units.bank b) b.index) s.counters
    recorder := if lost s.units.recorder 4 then recorderOff s.recorder else s.recorder
    alerts := withoutIdleWrap units (if enabledLost then { alerts with raised := alerts.raised ||| 0x10 } else alerts) }

/-- The target that a BANKCTL control byte names for a bank (R70). -/
def bankTargetOf (control : Byte) (b : Bank) : UnitState :=
  if !control.getLsbD b.index then .off else if control.getLsbD (b.index + 4) then .running else .ready

/-- What a BANKCTL makes of a state (R69, R72, R151): each bank goes to its target, a Locked bank stays Locked, and
a bank that enters Off from Ready or Running is cleared. -/
def afterBankctl (control : Byte) (s : State) : State :=
  let unit (b : Bank) : UnitState := if s.units.bank b = .locked then .locked else bankTargetOf control b
  let units : Units :=
    { s.units with edge := unit .edge, dwell := unit .dwell, link := unit .link, tally := unit .tally }
  { s with
    units := units
    counters := clearedBanks
      (fun b => (s.units.bank b == .ready || s.units.bank b == .running) && bankTargetOf control b == .off) s.counters
    alerts := withoutIdleWrap units s.alerts }

/-- A conditioner after a tick at which its candidate level is `x` (the table of R52; R53). -/
def conditioned (x : Bool) (c : Conditioner) : Conditioner :=
  if c.seeded = false then { c with level := x, seeded := true }
  else if x = c.level then { c with stab := 0 }
  else if c.stab.toNat < c.filter.toNat then { c with stab := c.stab + 1 }
  else { c with level := x, stab := 0 }

/-- The candidate level (R51). -/
def candidateOf (raw : Bool) (c : Conditioner) : Bool := if c.inverted then !raw else raw

/-- At a tick with this raw level the conditioner produces an edge (R52). -/
def hasEdge (raw : Bool) (c : Conditioner) : Bool :=
  c.seeded && candidateOf raw c != c.level && decide (c.filter.toNat ≤ c.stab.toNat)

/-- The table of R55. -/
def qualified (m : EdgeMode) (rising : Bool) : Bool :=
  match m, rising with
  | .rise, true => true
  | .fall, false => true
  | .both, _ => true
  | _, _ => false

/-- At step 3 of the tick the supervisor gives its warning (R159). -/
def warns (w : Supervisor) : Bool :=
  (w.state == .openWatch || w.state == .watch) && w.phase != .pulsing && w.warn && w.count + 1 == 2 ^ (w.e - 1)

/-- At step 3 of the tick the supervisor fires (R159). -/
def fires (w : Supervisor) : Bool :=
  (w.state == .openWatch || w.state == .watch) && w.phase != .pulsing && w.count + 1 == 2 ^ w.e

/-- At step 3 of the tick the pulse ends (R161). -/
def pulseEnds (w : Supervisor) : Bool :=
  (w.state == .openWatch || w.state == .watch) && w.phase == .pulsing && w.pulse.toNat ≤ 1

/-- The supervisor after step 3 of a tick (R159 to R161). -/
def supervised (w : Supervisor) : Supervisor :=
  if w.state = .off then w
  else if w.phase = .pulsing then
    if w.pulse.toNat ≤ 1 then { w with pulse := 0, count := 0, phase := .quiet } else { w with pulse := w.pulse - 1 }
  else if fires w then
    { w with count := w.count + 1, phase := .pulsing, pulse := w.w
             tally := if w.tally = 255 then 255 else w.tally + 1 }
  else if warns w then { w with count := w.count + 1, phase := .warned }
  else { w with count := w.count + 1 }

/-- The hold after step 7 of a tick (R35, R36). -/
def heldOn (h : Hold) : Hold :=
  if h.active then
    if h.ticks = 255 then { active := false, remaining := 0, ticks := 0, alertLow := false }
    else { h with ticks := h.ticks + 1 }
  else h

/-- The queue and the loss tally are as every event but the first of two losses finds them: empty and 0. -/
abbrev NothingWaits (s : State) : Prop := s.recorder.queue = [] ∧ s.recorder.lossCount = 0

/-- The writer can place a record of this length in the cursor's leaf (R119). -/
abbrev HasRoom (n : Nat) (s : State) : Prop :=
  s.recorder.cursor.placed = true ∧ s.recorder.cursor.blocked = false ∧ s.recorder.cursor.offset + n ≤ 240

/-- The capture memory of `t` is that of `s` with these bytes at an offset of the cursor's leaf and, if there is
room for it, the end marker behind them (R93, R119). -/
abbrev Placed (bytes : List Byte) (s t : State) : Prop :=
  (∀ i : Fin bytes.length,
    leafByte t s.recorder.cursor.leaf (s.recorder.cursor.offset + i) = bytes[i]) ∧
  (s.recorder.cursor.offset + bytes.length < 240 →
    leafByte t s.recorder.cursor.leaf (s.recorder.cursor.offset + bytes.length) = 0) ∧
  ∀ a : Nat, a < 256 * s.recorder.cursor.leaf.toNat + s.recorder.cursor.offset ∨
      256 * s.recorder.cursor.leaf.toNat + s.recorder.cursor.offset + bytes.length < a ∨
      (a = 256 * s.recorder.cursor.leaf.toNat + 240) →
    t.capture.read a = s.capture.read a

/-- The seal of a leaf reads so in `t`, and every byte outside it as in `s`. -/
abbrev SealReads (leaf : Byte) (shown : Fin 16 → Byte) (s t : State) : Prop :=
  (∀ i : Fin 16, leafByte t leaf (240 + i) = shown i) ∧
  ∀ a : Nat, a < 256 * leaf.toNat + 240 ∨ 256 * leaf.toNat + 256 ≤ a → t.capture.read a = s.capture.read a

/-- The leaf is entered (R123): byte 0 is the end marker, the seal is 0 but for NOTIFY. -/
abbrev Entered (leaf : Byte) (notify : Bool) (s t : State) : Prop :=
  leafByte t leaf 0 = 0 ∧
  (∀ i : Fin 16, leafByte t leaf (240 + i) = if i.val = 0 ∧ notify = true then 2 else 0) ∧
  ∀ a : Nat, a ≠ 256 * leaf.toNat → (a < 256 * leaf.toNat + 240 ∨ 256 * leaf.toNat + 256 ≤ a) →
    t.capture.read a = s.capture.read a

/-- What every event finds of the writer, and what its effects below are stated under: capture memory in its canonical
form, the offset in the record area, a cursor that is placed while the recorder is Running, and no record waiting while
it is not. -/
abbrev WriterReady (s : State) : Prop :=
  s.capture.wf 65536 ∧ s.recorder.cursor.offset ≤ 240 ∧
  (s.units.recorder = .running → s.recorder.cursor.placed = true) ∧
  (s.recorder.cursor.placed = false → s.recorder.queue = [])

/-- A record of these bytes is placed (R119): the bytes and the end marker, the offset, the leaf record count, TALLY
counter 40. Nothing else changes. -/
abbrev Places (bytes : List Byte) (s t : State) : Prop :=
  Counted (fun k => k == 40) s t ∧ Placed bytes s t ∧
  t = { s with
    counters := t.counters
    alerts := { s.alerts with raised := t.alerts.raised }
    capture := t.capture
    recorder := { s.recorder with
      cursor := { s.recorder.cursor with offset := s.recorder.cursor.offset + bytes.length }
      records := s.recorder.records + 1 } }

/-- A record is dropped at an occupied leaf (R121): the dropped count of its seal goes up by one, stopping at 65,535,
TALLY counter 42 is offered a count and RECORD_LOSS is raised. Nothing else changes. -/
abbrev Drops (s t : State) : Prop :=
  let leaf := s.recorder.cursor.leaf
  let count : Half := leafByte s leaf 245 ++ leafByte s leaf 244
  let next : Half := if count = 0xFFFF then 0xFFFF else count + 1
  Counted (fun k => k == 42) { s with alerts := { s.alerts with raised := s.alerts.raised ||| 8 } } t ∧
  SealReads leaf (fun i => if i.val = 4 then next.extractLsb' 0 8 else if i.val = 5 then next.extractLsb' 8 8
    else leafByte s leaf (240 + i.val)) s t ∧
  t = { s with
    counters := t.counters, alerts := { s.alerts with raised := t.alerts.raised }, capture := t.capture }

/-- Records in hand and in the queue are discarded at the end of a walk, each with one count to TALLY counter 43
(R125, R126). -/
abbrev Discards (n : Nat) (s t : State) : Prop :=
  CountedTimes 43 n s t ∧
  t = { s with
    counters := t.counters
    alerts := { s.alerts with raised := t.alerts.raised }
    recorder := { s.recorder with queue := [] } }

/-- Steps 1 to 5 of sealing the cursor's leaf (R122): the rest of the record area is zero-filled, the sixteen seal bytes
are written, the leaf sequence goes up by one, TALLY counter 44 is offered a count, and SEAL_NOTE is raised exactly if
NOTIFY is set. Nothing else changes. -/
abbrev Seals (s t : State) : Prop :=
  let c := s.recorder.cursor
  let notify := (leafByte s c.leaf 240).getLsbD 1
  Counted (fun k => k == 44)
    { s with alerts := { s.alerts with raised := if notify then s.alerts.raised ||| 2 else s.alerts.raised } } t ∧
  (∀ o : Fin 240, leafByte t c.leaf o = if o.val < c.offset then leafByte s c.leaf o else 0) ∧
  leafByte t c.leaf 240 = (if notify then 3 else 1) ∧
  leafByte t c.leaf 241 = BitVec.ofNat 8 s.recorder.records ∧
  leafByte t c.leaf 242 = BitVec.ofNat 8 (c.offset / 4) ∧
  leafByte t c.leaf 243 = 0 ∧ leafByte t c.leaf 244 = 0 ∧ leafByte t c.leaf 245 = 0 ∧
  (∀ i : Fin 2, leafByte t c.leaf (246 + i) = s.recorder.leafSeq.extractLsb' (8 * i.val) 8) ∧
  (∀ i : Fin 6, leafByte t c.leaf (248 + i) = s.timebase.extractLsb' (8 * i.val) 8) ∧
  leafByte t c.leaf 254 = 0 ∧ leafByte t c.leaf 255 = 0 ∧
  (∀ a : Nat, a < 256 * c.leaf.toNat ∨ 256 * c.leaf.toNat + 256 ≤ a → t.capture.read a = s.capture.read a) ∧
  t = { s with
    counters := t.counters
    alerts := { s.alerts with raised := t.alerts.raised }
    capture := t.capture
    recorder := { s.recorder with leafSeq := s.recorder.leafSeq + 1 } }

/-- The cursor arrives at a leaf of a STORE entry (R123, R124): it is blocked if the leaf is sealed, and otherwise the
leaf is entered. Nothing else changes. -/
abbrev Arrives (entry : BitVec 6) (leaf : Byte) (s t : State) : Prop :=
  let occupied := (leafByte s leaf 240).getLsbD 0
  (occupied = true → t.capture = s.capture) ∧
  (occupied = false →
    Entered leaf ((leafByte s leaf 240).getLsbD 1 || (entryByte s.directory entry 3).getLsbD 0) s t) ∧
  t = { s with
    capture := t.capture
    recorder := { s.recorder with
      cursor := { entry := entry, leaf := leaf, offset := 0, placed := true, blocked := occupied }
      records := if occupied then s.recorder.records else 0 } }

/-- The walk has ended at an entry (R125, R126, steps 1 and 2): a Running recorder is Ready, its countdown is stopped,
and the cursor is unplaced and keeps its leaf. -/
def walkEnded (entry : BitVec 6) (s : State) : State :=
  { s with
    units := { s.units with recorder := if s.units.recorder = .running then .ready else s.units.recorder }
    recorder := { s.recorder with
      countdown := if s.units.recorder = .running then none else s.recorder.countdown
      cursor := { s.recorder.cursor with entry := entry, offset := 0, placed := false, blocked := false } } }

/-- Resolution met STOP at an entry (R125): STOP_REACHED, and the queue is discarded. -/
abbrev StopsAt (entry : BitVec 6) (s t : State) : Prop :=
  Discards s.recorder.queue.length
    (let e := walkEnded entry s; { e with alerts := { e.alerts with raised := e.alerts.raised ||| 4 } }) t

/-- A fault of a kind at an entry (R126, R152): CHAIN_FAULT, the fault detail unless one stands, and the queue is
discarded. -/
abbrev FaultsAt (kind : FaultKind) (entry : BitVec 6) (s t : State) : Prop :=
  Discards s.recorder.queue.length
    (let e := walkEnded entry s
     { e with alerts := { e.alerts with
        raised := e.alerts.raised ||| 1
        faultKind := if e.alerts.raised.getLsbD 0 then e.alerts.faultKind else kind
        faultEntry := if e.alerts.raised.getLsbD 0 then e.alerts.faultEntry else entry } }) t

/-- The cursor advances at the end of a seal (R124): to the next leaf of the run, or to the entry that the next index
resolves to, one LINK followed. -/
def Advances (s t : State) : Prop :=
  let c := s.recorder.cursor
  let d := s.directory
  let i := c.entry + 1
  let e := if entryByte d i 0 = 2 then (entryByte d i 1).setWidth 6 else i
  if c.leaf.toNat < (entryByte d c.entry 1).toNat + (entryByte d c.entry 2).toNat then Arrives c.entry (c.leaf + 1) s t
  else if c.entry = 63 then FaultsAt .endOfDirectory 63 s t
  else if entryByte d e 0 = 1 then
    if (entryByte d e 1).toNat + (entryByte d e 2).toNat + 1 ≤ 256 then Arrives e (entryByte d e 1) s t
    else FaultsAt .range i s t
  else if entryByte d e 0 = 2 then FaultsAt .linkChain i s t
  else if entryByte d e 0 = 3 then StopsAt i s t
  else FaultsAt .void i s t

/-- The writer handles a record that it has taken from the head of the queue (R118, R120): it drops it at an occupied
leaf, places it if it fits, and otherwise seals the leaf, advances and handles it again: discarding it then if the walk
has ended. -/
def Handles (r : Rec) (s t : State) : Prop :=
  let c := s.recorder.cursor
  if c.blocked = true then Drops s t
  else if c.offset + r.bytes.length ≤ 240 then Places r.bytes s t
  else ∃ u v : State, Seals s u ∧ Advances u v ∧
    (if v.recorder.cursor.placed = false then Discards 1 v t
     else if v.recorder.cursor.blocked = true then Drops v t else Places r.bytes v t)

/-- The writer drains the queue from its head until it is empty, or until a STOP or a fault has discarded the rest
(R110, R118). -/
def Drains : List Rec → State → State → Prop
  | [], s, t => t = { s with recorder := { s.recorder with queue := [] } }
  | r :: rest, s, t => ∃ u, Handles r { s with recorder := { s.recorder with queue := rest } } u ∧
      (if u.recorder.cursor.placed = true then Drains rest u t else t = u)

/-- Steps 1 and 2 of the end of a hold (R36, R116): the hold is inactive; a deferral is settled, by one snapshot with
DEFERRED set if the recorder is Running. -/
def holdEnded (s : State) : State :=
  let e := { s with hold := { active := false, remaining := 0, ticks := 0, alertLow := false } }
  let t := if s.recorder.deferred = true ∧ s.units.recorder = .running
    then offer (snapshotRecord true s.recorder.missed e) e else e
  { t with recorder := { t.recorder with
      snapSeq := if s.recorder.deferred = true ∧ s.units.recorder = .running
        then s.recorder.snapSeq + 1 else s.recorder.snapSeq
      deferred := false
      missed := if s.recorder.deferred then 0 else s.recorder.missed } }

/-- Step 3 of a tick (R159 to R162): the supervisor's count, its pin, the causes, LINK counter 39 for a firing, and the
SUPERVISOR record if one is offered. -/
def afterSupervisor (s : State) : State :=
  let w := supervised s.supervisor
  let told (fired : Bool) (t : State) : State :=
    if s.units.recorder = .running ∧ s.recorder.config.supervisor = true
    then offer (.supervisor fired w.tally (BitVec.ofNat 8 w.e) (s.timebase.setWidth 32)) t else t
  let t := { s with supervisor := w }
  if fires s.supervisor then
    told true (counted (fun k => k == 39) { t with
      outPins := { t.outPins with hrstLow := true }
      alerts := { t.alerts with raised := t.alerts.raised ||| 0x80 } })
  else if warns s.supervisor then told false { t with alerts := { t.alerts with raised := t.alerts.raised ||| 0x40 } }
  else if pulseEnds s.supervisor then { t with outPins := { t.outPins with hrstLow := false } }
  else t

/-- One input at step 4 of a tick (R51 to R56, R77, R97): its conditioner, and for a qualified edge the EDGE count and
then the EVENT record if the three conditions hold. -/
def afterInput (ev : Half) (s : State) (n : Fin 16) : State :=
  let c := s.inputs[n]
  let x := candidateOf (ev.getLsbD n) c
  let t := { s with inputs := s.inputs.set n.val (conditioned x c) }
  if hasEdge (ev.getLsbD n) c && qualified c.mode x then
    let u := counted (fun k => k.val == n.val) t
    let count : Half := if u.units.edge = .running then (u.counters.value[n.val]).setWidth 16 else 0
    if c.trig = true ∧ u.units.recorder = .running ∧ u.recorder.config.events = true
    then offer (.event (BitVec.ofNat 4 n.val) x count (u.timebase.setWidth 32)) u else u
  else t

/-- Step 5 of a tick (R78): one count for each input at conditioned level 1. -/
def afterDwell (s : State) : State :=
  counted (fun k => if h : 16 ≤ k.val ∧ k.val < 32 then s.inputs[k.val - 16].level else false) s

/-- Step 6 of a tick (R114 to R116): the sampling countdown; at a sampling point with SNAP on, a snapshot, or its
deferral inside a hold. -/
def afterSampling (s : State) : State :=
  let r := s.recorder
  if s.units.recorder ≠ .running then s
  else match r.countdown with
    | none => s
    | some n =>
      if n ≠ 1 then { s with recorder := { r with countdown := some (n - 1) } }
      else
        let t := { s with recorder := { r with countdown := some r.config.interval } }
        if r.config.snap = false then t
        else if s.hold.active then
          { t with recorder := { t.recorder with
              deferred := true
              missed := if r.deferred = false then r.missed else if r.missed = 15 then 15 else r.missed + 1 } }
        else
          let u := offer (snapshotRecord false 0 t) t
          { u with recorder := { u.recorder with snapSeq := r.snapSeq + 1 } }

/-- Step 7 of a tick (R35, R36). -/
def afterHoldTick (s : State) : State :=
  if s.hold.active = true ∧ s.hold.ticks = 255 then holdEnded s else { s with hold := heldOn s.hold }

/-- A tick recognizes a permit change (R48). -/
def permitFlips (prm : Bool) (s : State) : Bool := decide (prm ≠ s.permit ∧ s.permitStab = 7)

/-- Steps 1 and 2 of a tick (R44, R45, R47, R48): the timebase, the divider and the pins; the PRM filter, with an
evaluation of G if it recognizes a change. -/
def afterPermit (prm : Bool) (ev : Half) (s : State) : State :=
  let t := { s with
    timebase := s.timebase + 1, divider := 0, inPins := { s.inPins with prm := prm, ev := ev }
    permitStab := if prm = s.permit ∨ permitFlips prm s = true then 0 else s.permitStab + 1 }
  if permitFlips prm s then afterEvaluation { t with permit := prm } else t

/-- Steps 1 to 7 of a tick, in their order (R44). -/
def beforeDrain (prm : Bool) (ev : Half) (s : State) : State :=
  afterHoldTick (afterSampling (afterDwell
    (allInputs.foldl (afterInput ev) (afterSupervisor (afterPermit prm ev s)))))

/-- The byte and the bit of the freeze image that show a counter's membership in its wrap set (section 5.5). -/
def wrapPlace (k : Fin 45) : Nat × Nat :=
  if k.val < 16 then (188 + k.val / 8, k.val % 8)
  else if k.val < 32 then (190 + (k.val - 16) / 8, k.val % 8)
  else if k.val < 40 then (192, k.val - 32) else (193, k.val - 40)

/-- The bytes of a wake's RESUME record (R99). -/
def resumeBytes (host : Bool) (input : Byte) (s : State) : List Byte :=
  [0x62, if host then 1 else 2, if host then 0 else input, s.episode] ++
    (List.range 4).map fun i => s.timebase.extractLsb' (8 * i) 8

/-- `t` is what a wake makes of `s`, apart from a RESUME record (R167, steps 1 and 4). -/
abbrev WokenQuietly (changed : Half) (s t : State) : Prop :=
  PinSet t ∧
  t = { s with
    power := .run, divider := 0
    inPins := { s.inPins with ev := s.inPins.ev ^^^ changed }
    outPins := { s.outPins with alertLow := t.outPins.alertLow } }

/-- `t` is what a wake makes of `s` whose RESUME record, of these bytes, the writer places (R167). -/
abbrev WokenWith (bytes : List Byte) (changed : Half) (s t : State) : Prop :=
  Counted (fun k => k == 40) s t ∧ PinSet t ∧ Placed bytes s t ∧
  t = { s with
    power := .run, divider := 0
    inPins := { s.inPins with ev := s.inPins.ev ^^^ changed }
    outPins := { s.outPins with alertLow := t.outPins.alertLow }
    counters := t.counters
    alerts := { s.alerts with raised := t.alerts.raised }
    capture := t.capture
    recorder := { s.recorder with
      cursor := { s.recorder.cursor with offset := s.recorder.cursor.offset + 8 }
      records := s.recorder.records + 1 } }

/-- The rows at which a byte arrives: a byte may complete a command (R11). -/
def isIncoming : Instr → Bool
  | .headerByte _ => true
  | .codeByte _ => true
  | .operandByte _ _ => true
  | .skipByte _ => true
  | .ignoredByte _ => true
  | .strayWrite _ => true
  | .windowWriteByte _ => true
  | _ => false

/-- The rows that are resets or end one (R168 to R170), SYSRESET among them. -/
def isReset : Instr → Bool
  | .sysreset _ _ => true
  | .powerOnReset _ _ => true
  | .sweepComplete _ => true
  | .pinResetAssert => true
  | .pinResetRelease _ => true
  | .releaseOfRstInInit _ => true
  | .lossOfSupply => true
  | _ => false

end Sys2Proof.Safety
end

