-- ==== Sys2Proof/Certificates/Slice0/Obligations.lean ====
section
/-! DEFINITION. The statements for the provers. Each is about every state that meets its hypotheses, reached by a
run or not. `Completes`, `Answers`, `Drains` and the other terms stand in Sys2Proof/Safety.lean; each names the whole
next state, so it is result and frame in one. Sys2Proof/Tests/Slice0.lean holds a witness
for each statement that has hypotheses. -/

open Sys2Proof Sys2Proof.Machine Sys2Proof.Safety

/-! ## The block, its time and its reset -/

/-- A step runs the command at the front of the queue on the state with the queue's rest. -/
def Obligations.StepRunsFrontCommand : Prop :=
  ∀ (c : Instr) (rest : List Instr) (s : State),
    s.pending = c :: rest → step s = exec c (s.withPending rest)

/-- R45, with the model's choice that a step on an empty queue is one REFCLK period (log entry 4): after a restart
of the divider P periods pass without a tick, and the tick comes at the end of period P + 1. R27, R45, R165, R168 and
R169: in STANDBY, while RST# is held low and without supply periods pass and nothing happens. Where no tick can occur
neither the row TICK nor the row of a part of a tick has an effect: that such a row then leaves the state as it is is the
model's choice (log entry 4 for TICK, log entry 6 for the parts, log entry 13 for rows that cannot occur). -/
def Obligations.TickEveryPPlusOnePeriods : Prop :=
  ∀ s : State,
    let up := s.life = .opened ∨ s.life = .committed
    (up → s.power = .run → s.pending = [] → s.divider = 0 →
      (∀ k, k ≤ s.prescaler.toNat → Host.Core.run Sys2Proof.core k s = .next { s with divider := k }) ∧
      Host.Core.run Sys2Proof.core (s.prescaler.toNat + 1) s = exec (.tick s.inPins.prm s.inPins.ev) s) ∧
    ((up ∧ s.power = .standby) ∨ s.life = .heldInReset ∨ s.life = .unpowered → s.pending = [] →
      ∀ k, Host.Core.run Sys2Proof.core k s = .next s) ∧
    (s.power = .standby ∨ ¬up → ∀ (prm raw : Bool) (ev : Half) (n : Fin 16),
      ∀ c ∈ [Instr.tick prm ev, .permitChange prm, .wdWarn, .wdFired, .pulseEnd, .inputEdge n raw, .samplingPoint,
          .holdTickLimit], exec c s = .next s)

/-- R168, with the same choice (log entry 4): in INIT the sweep clears one byte in each REFCLK period, capture memory
first and then the directory, and at the end of the 65,792nd period the part enters OPEN. The clauses on single bytes
inside INIT are the model's (log entry 8): that the sweep goes through rising addresses is deduced, and that a byte keeps
its contents until the sweep clears it is the model's choice. -/
def Obligations.SweepTakes65792Periods : Prop :=
  ∀ s : State,
    s.pending = [] → s.life = .init → s.sweep = 0 → s.inPins.rstLow = false →
    s.capture.wf 65536 → s.directory.wf 256 →
    (∀ k, k < 65792 → ∃ t : State, Host.Core.run Sys2Proof.core k s = .next t ∧ t.life = .init ∧
      (∀ a, t.capture.read a = if a < k then 0 else s.capture.read a) ∧
      (∀ a, t.directory.read a = if a + 65536 < k then 0 else s.directory.read a)) ∧
    ∃ t : State, Host.Core.run Sys2Proof.core 65792 s = .next t ∧ t.life = .opened ∧ t.capture = [] ∧
      t.directory = [] ∧ t.resetCause = .por ∧ t.resetCount = 0 ∧ t.recorder.leafSeq = 0 ∧
      t.permit = s.inPins.prm ∧ t.straps = s.straps

/-- The reset-state table of section 11.5, column "After power-on reset", for the quantities it gives a value. Two
values are the model's choice where the table gives two: the parser is IDLE because CS# is shown high (log entry 1), and
the life cycle is OPEN because State.reset is the entry into OPEN (log entry 12). -/
def Obligations.ResetStateTable : Prop :=
  let s := State.reset
  s.life = .opened ∧ s.outPins.rdy = false ∧ s.power = .run ∧ s.episode = 0 ∧ s.resetCause = .por ∧
  s.resetCount = 0 ∧ s.link.parser = .idle ∧ s.lastResult = .done ∧ s.locked = false ∧ s.hold.active = false ∧
  s.prescaler = 99 ∧ s.timebase = 0 ∧ s.divider = 0 ∧ s.permitStab = 0 ∧
  (∀ n : Fin 16, s.inputs[n].inverted = false ∧ s.inputs[n].mode = .none ∧ s.inputs[n].filter = 0 ∧
    s.inputs[n].trig = false ∧ s.inputs[n].wake = false ∧ s.inputs[n].seeded = false ∧ s.inputs[n].stab = 0) ∧
  s.grantMask = 0 ∧ s.guardMask = 0 ∧
  s.units = { edge := .locked, dwell := .locked, link := .locked, tally := .locked, recorder := .locked } ∧
  (∀ k : Fin 45, s.counters.value[k] = 0 ∧ s.counters.wrapped[k] = false) ∧ s.counters.wrapAlert = 0 ∧
  (∀ a, s.freeze.read a = 0) ∧
  s.recorder.config.interval = 1000 ∧ s.recorder.config.snap = true ∧ s.recorder.config.supervisor = true ∧
  s.recorder.config.extended = false ∧ s.recorder.config.events = false ∧ s.recorder.config.k = 0 ∧
  s.recorder.config.slots = Vector.replicate 8 0 ∧
  s.recorder.cursor = { entry := 0, leaf := 0, offset := 0, placed := false, blocked := false } ∧
  s.recorder.queue = [] ∧ s.recorder.lossCount = 0 ∧ s.recorder.countdown = none ∧
  s.recorder.deferred = false ∧ s.recorder.missed = 0 ∧ s.recorder.snapSeq = 0 ∧ s.recorder.leafSeq = 0 ∧
  s.alerts.faultKind = .none ∧ s.alerts.faultEntry = 0 ∧
  (∀ a, s.capture.read a = 0) ∧ (∀ a, s.directory.read a = 0) ∧
  s.window.space = .capture ∧ s.window.walk = .wrap ∧ s.window.start = 0 ∧ s.window.stop = 65535 ∧
  s.window.ptr = 0 ∧ s.window.exhausted = false ∧
  s.alerts.raised = 0 ∧ s.alerts.mask = 0x01FF ∧ s.outPins.alertLow = false ∧
  s.supervisor.state = .openWatch ∧ s.supervisor.phase = .quiet ∧ s.supervisor.count = 0 ∧
  s.supervisor.e = 16 ∧ s.supervisor.w = 20 ∧ s.supervisor.warn = false ∧ s.supervisor.tally = 0 ∧
  s.outPins.hrstLow = false

/-- Every promise of Sys2Proof/Safety.lean holds after reset. -/
def Obligations.ResetIsGood : Prop := Inv State.reset ∧ QueueEmpty State.reset ∧ AlertPinOk State.reset

/-- No step from a state whose window stands in its range stops: every event of the reference has a next state. -/
def Obligations.NoStepStops : Prop := ∀ s : State, WindowOk s → ∃ t, step s = .next t

/-! ## The bytes of the commands -/

/-- Section 2.3 and the operand layouts of the owning chapters: the bytes of a command spell that command. The
PRM level of SYSRESET is no byte of it: it is the level at the completion event (R49). -/
def Obligations.CommandBytesSpellTheCommand : Prop :=
  ∀ (c : Instr) (bytes : List Byte) (prm : Bool),
    commandBytes c = some bytes → (∀ g p, c = .sysreset g p → p = prm) → commandOf prm bytes = some c

/-- The other direction: bytes spell a command exactly if the code is known and their number is its length, and
then they are the bytes of that command (R10, R13). -/
def Obligations.SpelledCommandHasTheseBytes : Prop :=
  ∀ (code : Byte) (rest : List Byte) (prm : Bool),
    ((commandOf prm (code :: rest)).isSome = true ↔ commandLength code = some (rest.length + 1)) ∧
    ∀ c, commandOf prm (code :: rest) = some c → commandBytes c = some (code :: rest)

/-! ## The host link -/

/-- R4, R7, R9, R43: what a transaction start does. In STANDBY, with no transaction open, it is first a wake; the
read/write bit of an own address byte opens a write or a read transfer, in an open transaction too (a repeated START);
an address byte that is not the part's own is the end of an open transaction; while the link ignores all traffic the
line alone changes. Two things here are the model's choice and no rule's: that the address byte is an operand of the row
and that a start in STANDBY is first the wake and then the same start (log entry 9, notes/assumptions/9.md), and the last
clause, that a start without supply, which cannot occur, leaves the state as it is (log entry 13,
notes/assumptions/13.md). -/
def Obligations.TransactionStartOpens : Prop :=
  ∀ (a : AddressByte) (s : State),
    let own := s.straps.i2c = true → a.address = (if s.straps.adrHigh then 0x4B else 0x4A)
    (linkUp s = true → own → (s.power = .run ∨ s.link.parser ≠ .idle) →
      exec (.transactionStart a) s = .next { s with
        inPins := { s.inPins with csLow := if s.straps.i2c then s.inPins.csLow else true }
        link := { s.link with
          parser := if s.link.parser = .idle then .expectHeader else s.link.parser
          transfer := if s.straps.i2c then (if a.read then .read else .write) else .none
          out := if s.straps.i2c then none else some 0
          ack := s.straps.i2c } }) ∧
    (linkUp s = true → own → s.power = .standby → s.link.parser = .idle →
      ∃ w, exec (.wake true 0) s = .next w ∧
        exec (.transactionStart a) s = exec (.transactionStart a) w) ∧
    (s.straps.i2c = true → a.address ≠ (if s.straps.adrHigh then 0x4B else 0x4A) →
      exec (.transactionStart a) s = exec .transactionEnd s) ∧
    (s.life = .init ∨ s.life = .heldInReset → own →
      exec (.transactionStart a) s = .next { s with
        inPins := { s.inPins with csLow := if s.straps.i2c then s.inPins.csLow else true }
        link := { s.link with transfer := .none, out := if s.straps.i2c then none else some 0, ack := false } }) ∧
    (s.life = .unpowered → own → exec (.transactionStart a) s = .next s)

/-- R9 and R15: the end of a transaction returns the parser to IDLE from every state, truncates a command in
progress first, and offers one count to LINK counter 32 for a transaction that was open; the line is released. -/
def Obligations.TransactionEndCloses : Prop :=
  ∀ s : State,
    let cut := insideCommand s.link.parser
    let released : State := { s with
      inPins := { s.inPins with csLow := if s.straps.i2c then s.inPins.csLow else false }
      link := { s.link with transfer := .none, out := none, ack := false } }
    (linkUp s = true → s.link.parser ≠ .idle →
      ∃ t, exec .transactionEnd s = .next t ∧
        Counted (fun k => k == 32 || (cut && k == 35))
          { s with alerts.raised := if cut then s.alerts.raised ||| 0x100 else s.alerts.raised } t ∧
        PinSet t ∧
        t = { released with
          lastResult := if cut then .truncated else s.lastResult
          link := { s.link with parser := .idle, transfer := .none, out := none, ack := false }
          counters := t.counters
          alerts := { s.alerts with raised := t.alerts.raised }
          outPins := { s.outPins with alertLow := t.outPins.alertLow } }) ∧
    (linkUp s = false ∨ s.link.parser = .idle → exec .transactionEnd s = .next released)

/-- R8: a header byte that is no framing error moves the parser to COLLECT, WRITE_STREAM or READ_STREAM, and a
window segment opens with its closed flag clear (R131). -/
def Obligations.HeaderByteOpensSegment : Prop :=
  ∀ (b : Byte) (s : State),
    linkUp s = true → WriteOpen s → s.link.parser = .expectHeader → headerOk b = true →
    let kind := b.extractLsb' 6 2
    exec (.headerByte b) s = .next { s with
      link := byteTaken s
        (if kind = 0 then .collect (b.extractLsb' 0 5) (b.getLsbD 5) []
         else if kind = 1 then .writeStream
         else if kind = 2 then .readStream .window false else .readStream .status false)
      window := if kind = 1 ∨ kind = 2 then { s.window with closed := false, unclocked := false } else s.window }

/-- R10, R11, R13: the bytes of a command. A code byte that is known and whose length is LEN is kept, and is the whole
command if LEN is 1; an unknown code leads to SKIP with LEN − 1 bytes to consume, and is complete at once if LEN
is 1. A further byte is kept, and the LEN-th completes the command, which runs at that same event. -/
def Obligations.CodeAndOperandBytes : Prop :=
  ∀ (len : BitVec 5) (more : Bool) (got : List Byte) (b : Byte) (prm : Bool) (c : Instr) (s : State),
    linkUp s = true → WriteOpen s → s.link.parser = .collect len more got → got.length < len.toNat →
    let n := got.length + 1
    let code := (got ++ [b]).getD 0 0
    let sampled : State := { s with inPins := { s.inPins with prm := prm } }
    let kept := byteTaken s (.collect len more (got ++ [b]))
    let taken := byteTaken s s.link.parser
    (got = [] → commandLength b = some len.toNat → n < len.toNat →
      exec (.codeByte b) s = .next { s with link := kept }) ∧
    (got = [] → commandLength b = some len.toNat → len.toNat = n → commandOf s.inPins.prm [b] = some c →
      exec (.codeByte b) s = exec c { s with link := taken }) ∧
    (got = [] → commandLength b = none → n < len.toNat →
      exec (.codeByte b) s = .next { s with link := byteTaken s (.skip more (len.toNat - 1)) }) ∧
    (got = [] → commandLength b = none → len.toNat = n →
      exec (.codeByte b) s = exec .unknownCommand { s with link := taken }) ∧
    (got ≠ [] → n < len.toNat → exec (.operandByte b prm) s = .next { sampled with link := kept }) ∧
    (got ≠ [] → len.toNat = n → commandLength code = some n → commandOf prm (got ++ [b]) = some c →
      exec (.operandByte b prm) s = exec c { sampled with link := taken })

/-- R13, R19: a byte in SKIP is consumed, and the last one completes the unknown command; a byte in IGNORE does
nothing but take its place on the line (R3, R5). R3: in SPI the incoming bytes of a read segment are ignored, whatever
row names them (log entry 5). R4 and R5: in I2C a byte comes in only in a write transfer to the part; that a byte row
outside one changes nothing is the model's choice (log entry 13). R7: the link takes traffic in OPEN and COMMITTED alone.
In INIT, while RST# is held low and without supply there is no byte event, no command, no count and no result; that every
byte row and every command row then leaves the state as it is is the model's choice (log entry 13). OPERAND_BYTE shows
its PRM level even where its byte does nothing (log entry 9). -/
def Obligations.SkippedAndIgnoredBytes : Prop :=
  ∀ (more : Bool) (left : Nat) (b : Byte) (prm : Bool) (m : ReadMoment) (s : State),
    let nothingIn :=
      (∀ c ∈ [Instr.headerByte b, .codeByte b, .skipByte b, .ignoredByte b, .strayWrite b, .windowWriteByte b],
        exec c s = .next s) ∧
      exec (.operandByte b prm) s = .next { s with inPins := { s.inPins with prm := prm } }
    (linkUp s = true ↔ s.life = .opened ∨ s.life = .committed) ∧
    (linkUp s = true → WriteOpen s → s.link.parser = .skip more left → 2 ≤ left →
      exec (.skipByte b) s = .next { s with link := byteTaken s (.skip more (left - 1)) }) ∧
    (linkUp s = true → WriteOpen s → s.link.parser = .skip more left → left = 1 →
      exec (.skipByte b) s = exec .unknownCommand { s with link := byteTaken s s.link.parser }) ∧
    (linkUp s = true → WriteOpen s → s.link.parser = .ignore →
      exec (.ignoredByte b) s = .next { s with link := byteTaken s .ignore }) ∧
    (linkUp s = true → ¬WriteOpen s → nothingIn) ∧
    (linkUp s = true → s.straps.i2c = false → (∃ k e, s.link.parser = .readStream k e) → nothingIn) ∧
    (s.life = .init ∨ s.life = .heldInReset ∨ s.life = .unpowered →
      nothingIn ∧
      (∀ c ∈ [Instr.echoByte m, .statusByte m, .strayRead m, .windowReadByte m], exec c s = .next s) ∧
      ∀ c, isCommand c = true → exec c s = .next s)

/-- R14 and R18: the five framing errors, and the four things each does: FRAMING, FRAME_ERROR, LINK counter 35, and
the parser in IGNORE. A stray read leaves SDA undriven, a stray write is acknowledged. Where an outgoing byte is no
framing error: in IGNORE in I2C it leaves SDA undriven and has no effect (R18, R19), and in SPI outside a read segment it
is 00h and has no effect (R3, R19), whatever row names it (log entry 5). -/
def Obligations.FramingErrors : Prop :=
  ∀ (len : BitVec 5) (more : Bool) (b : Byte) (s : State),
    linkUp s = true →
    let outgoing : List Instr := [.strayRead, .echoByte, .statusByte, .windowReadByte .value]
    (WriteOpen s → s.link.parser = .expectHeader → headerOk b = false →
      ∃ t, exec (.headerByte b) s = .next t ∧ FramedWith (byteTaken s .ignore) s t) ∧
    (WriteOpen s → s.link.parser = .collect len more [] → (commandLength b).isSome = true →
      commandLength b ≠ some len.toNat →
      ∃ t, exec (.codeByte b) s = .next t ∧ FramedWith (byteTaken s .ignore) s t) ∧
    (s.straps.i2c = true → s.link.transfer = .read →
      (s.link.parser = .expectHeader ∨ insideCommand s.link.parser = true ∨ s.link.parser = .writeStream) →
      ∃ t, exec .strayRead s = .next t ∧ FramedWith { s.link with parser := .ignore, out := none } s t) ∧
    (s.straps.i2c = true → s.link.transfer = .write → (∃ k e, s.link.parser = .readStream k e) →
      ∃ t, exec (.strayWrite b) s = .next t ∧ FramedWith (byteTaken s .ignore) s t) ∧
    (s.straps.i2c = true → s.link.transfer = .read → s.link.parser = .ignore →
      ∀ c ∈ outgoing, exec c s = .next { s with link := { s.link with out := none } }) ∧
    (s.straps.i2c = false → s.link.parser ≠ .idle → (∀ k e, s.link.parser ≠ .readStream k e) →
      ∀ c ∈ outgoing, exec c s = .next { s with link := { s.link with out := some 0 } })

/-- R39 and R40: the echo byte says the last result, the alert state, COMMITTED, the lock and the hold as they stand
at its event, and in a STATUS segment it latches the status block; each payload byte of a STATUS segment is the next
byte of the latched copy, and past byte 19 the block is latched afresh. Nothing else changes. R6: the master's
not-acknowledge ends the read transfer, and SDA is released; the segment stays as it is, so that a further read transfer
goes on with it. That a row outside a read transfer, and a moment without an effect, change nothing is the model's
choice (log entry 13). -/
def Obligations.EchoAndStatusBytes : Prop :=
  ∀ (kind : ReadKind) (m : ReadMoment) (s : State),
    linkUp s = true →
    let outgoing (m : ReadMoment) : List Instr := [.echoByte m, .statusByte m, .strayRead m, .windowReadByte m]
    (ReadOpen s → s.link.parser = .readStream kind false →
      ∃ (t : State) (e : Byte), exec .echoByte s = .next t ∧
        e.extractLsb' 0 4 = BitVec.ofNat 4 (resultNumber s.lastResult) ∧
        (e.getLsbD 4 = true ↔ s.alerts.raised &&& s.alerts.mask ≠ 0) ∧
        (e.getLsbD 5 = true ↔ s.life = .committed) ∧
        e.getLsbD 6 = s.locked ∧ e.getLsbD 7 = s.hold.active ∧
        t = { s with link := { s.link with
          parser := .readStream kind true
          out := some e
          latch := if kind = .status then statusBlock s else s.link.latch
          latchPos := if kind = .status then 0 else s.link.latchPos } }) ∧
    (ReadOpen s → s.link.parser = .readStream .status true → s.link.latch.length = 20 → s.link.latchPos < 20 →
      exec .statusByte s = .next { s with link := { s.link with
        out := some (s.link.latch.getD s.link.latchPos 0), latchPos := s.link.latchPos + 1 } }) ∧
    (ReadOpen s → s.link.parser = .readStream .status true → s.link.latch.length = 20 → 20 ≤ s.link.latchPos →
      exec .statusByte s = .next { s with link := { s.link with
        out := some ((statusBlock s).getD 0 0), latch := statusBlock s, latchPos := 1 } }) ∧
    (s.straps.i2c = true → s.link.transfer = .read → ∀ c ∈ outgoing .nack,
      exec c s = .next { s with link := { s.link with transfer := .none, out := none } }) ∧
    (¬ReadOpen s → ∀ c ∈ outgoing m, exec c s = .next s) ∧
    (s.straps.i2c = false → ∀ c ∈ outgoing .nack, exec c s = .next s) ∧
    (s.link.parser ≠ .readStream .window true → ∀ c ∈ outgoing .clock, exec c s = .next s)

/-- R41: the fields of the status block, with the numbers of sections 2.2, 2.4, 4.1, 9.6, 10.1 and 11.3. -/
def Obligations.StatusBlockLayout : Prop :=
  ∀ s : State,
    HoldOk s → QueueOk s → CursorOk s →
    let b (i : Nat) : Byte := (statusBlock s).getD i 0
    (statusBlock s).length = 20 ∧
    (s.life = .opened → (b 0).extractLsb' 0 2 = 1) ∧ (s.life = .committed → (b 0).extractLsb' 0 2 = 2) ∧ (b 0).getLsbD 2 = s.locked ∧ (b 0).getLsbD 3 = s.hold.active ∧
    ((b 0).extractLsb' 4 3).toNat = s.hold.remaining ∧ (b 0).getLsbD 7 = false ∧
    b 1 = BitVec.ofNat 8 (resultNumber s.lastResult) ∧ b 3 ++ b 2 = s.alerts.raised ∧ b 5 ++ b 4 = s.alerts.mask ∧
    (b 7 ++ b 6 : Half).extractLsb' 0 2 = BitVec.ofNat 2 (unitNumber s.units.edge) ∧
    (b 7 ++ b 6 : Half).extractLsb' 2 2 = BitVec.ofNat 2 (unitNumber s.units.dwell) ∧
    (b 7 ++ b 6 : Half).extractLsb' 4 2 = BitVec.ofNat 2 (unitNumber s.units.link) ∧
    (b 7 ++ b 6 : Half).extractLsb' 6 2 = BitVec.ofNat 2 (unitNumber s.units.tally) ∧
    (b 7 ++ b 6 : Half).extractLsb' 8 2 = BitVec.ofNat 2 (unitNumber s.units.recorder) ∧
    (b 7).extractLsb' 2 6 = 0 ∧
    (b 8).extractLsb' 0 6 = s.recorder.cursor.entry ∧ (b 8).getLsbD 6 = s.recorder.cursor.placed ∧
    (b 8).getLsbD 7 = s.recorder.cursor.blocked ∧ b 9 = s.recorder.cursor.leaf ∧
    4 * (b 10).toNat = s.recorder.cursor.offset ∧ (b 11).toNat = s.recorder.queue.length ∧
    b 12 = BitVec.ofNat 8 (faultNumber s.alerts.faultKind) ∧ b 13 = s.alerts.faultEntry.setWidth 8 ∧
    (b 14).extractLsb' 0 2 = BitVec.ofNat 2 (watchNumber s.supervisor.state) ∧
    (b 14).extractLsb' 2 2 = BitVec.ofNat 2 (phaseNumber s.supervisor.phase) ∧
    (b 14).extractLsb' 4 4 = 0 ∧ b 15 = s.supervisor.tally ∧ b 16 = BitVec.ofNat 8 (resetNumber s.resetCause) ∧ b 17 = s.resetCount ∧
    b 19 ++ b 18 = s.recorder.leafSeq

/-! ## Windows -/

/-- R3, R80, R133, R134, R136, R139: a payload byte of a WINDOW_READ segment. Its value is fixed at the byte event;
the transfer, its count and its pointer move happen there in I2C and at the first clock edge in SPI. A locked,
exhausted or closed window returns 00h and transfers nothing; under the lock the first such byte leaves LOCKED. That the
clock moment changes nothing in I2C, or for a byte whose value was never fixed, is the model's choice (log entry 13). -/
def Obligations.WindowReadDelivers : Prop :=
  ∀ s : State,
    linkUp s = true → ReadOpen s → s.link.parser = .readStream .window true → WindowOk s →
    let w := s.window
    let spent := w.walk = .oneshot ∧ w.exhausted = true
    let there := (spaceMemory w.space s).read w.ptr.toNat
    let shown (b : Byte) : Link := { s.link with out := some b }
    (s.straps.i2c = true → w.closed = false → s.locked = false → ¬spent →
      ∃ t, exec (.windowReadByte .value) s = .next t ∧ Transfers 36 (shown there) (afterTransfer w) s t ∧
        t.capture = s.capture ∧ t.directory = s.directory) ∧
    (s.straps.i2c = true → (w.closed = true ∨ (s.locked = false ∧ spent)) →
      exec (.windowReadByte .value) s = .next { s with link := shown 0 }) ∧
    (s.straps.i2c = true → w.closed = false → s.locked = true →
      exec (.windowReadByte .value) s =
        .next { s with link := shown 0, lastResult := .locked, window := { w with closed := true } }) ∧
    (s.straps.i2c = false →
      exec (.windowReadByte .value) s = .next { s with
        link := shown (if w.closed = true ∨ s.locked = true ∨ spent then 0 else there)
        window := { w with unclocked := true } }) ∧
    (s.straps.i2c = false → w.unclocked = true → w.closed = false → s.locked = false → ¬spent →
      ∃ t, exec (.windowReadByte .clock) s = .next t ∧
        Transfers 36 s.link { afterTransfer w with unclocked := false } s t ∧
        t.capture = s.capture ∧ t.directory = s.directory) ∧
    (s.straps.i2c = false → w.unclocked = true → (w.closed = true ∨ (s.locked = false ∧ spent)) →
      exec (.windowReadByte .clock) s = .next { s with window := { w with unclocked := false } }) ∧
    (s.straps.i2c = false → w.unclocked = true → w.closed = false → s.locked = true →
      exec (.windowReadByte .clock) s =
        .next { s with lastResult := .locked, window := { w with closed := true, unclocked := false } }) ∧
    ((s.straps.i2c = true ∨ w.unclocked = false) → exec (.windowReadByte .clock) s = .next s)

/-- R137 with R133, R134, R138 and R139: a byte written into a closed segment is dropped; under the lock, into FREEZE,
while the recorder is Ready or Running, or into an exhausted ONESHOT window, the first byte leaves LOCKED or DENIED and
closes the segment, and no store changes and nothing is counted. Otherwise the byte is stored at the pointer, every
other byte of the stores is unchanged, the pointer moves and LINK counter 37 is offered one count. -/
def Obligations.WindowWriteStoresOrRefuses : Prop :=
  ∀ (b : Byte) (s : State),
    linkUp s = true → WriteOpen s → s.link.parser = .writeStream →
    let w := s.window
    let dropped : State := { s with link := byteTaken s .writeStream }
    let refused := w.space = .freeze ∨ s.units.recorder = .ready ∨ s.units.recorder = .running ∨
      (w.walk = .oneshot ∧ w.exhausted = true)
    (w.closed = true → exec (.windowWriteByte b) s = .next dropped) ∧
    (w.closed = false → s.locked = true →
      exec (.windowWriteByte b) s =
        .next { dropped with lastResult := .locked, window := { w with closed := true } }) ∧
    (w.closed = false → s.locked = false → refused →
      exec (.windowWriteByte b) s =
        .next { dropped with lastResult := .denied, window := { w with closed := true } }) ∧
    (w.closed = false → s.locked = false → ¬refused → WindowOk s → StoresOk s →
      ∃ t, exec (.windowWriteByte b) s = .next t ∧
        Transfers 37 (byteTaken s .writeStream) (afterTransfer w) s t ∧
        (w.space = .capture → t.directory = s.directory ∧
          ∀ a, t.capture.read a = if a = w.ptr.toNat then b else s.capture.read a) ∧
        (w.space = .directory → t.capture = s.capture ∧
          ∀ a, t.directory.read a = if a = w.ptr.toNat then b else s.directory.read a))

/-! ## The command processor -/

/-- R26: NOP. -/
def Obligations.NopDoesNothing : Prop :=
  ∀ s : State,
    linkUp s = true →
    commandBytes .nop = some [0x00] ∧ commandLength 0x00 = some 1 ∧
    Answers .nop (if s.locked then .locked else .done) s s

/-- R32: UNLOCK. -/
def Obligations.UnlockNeedsItsGuard : Prop :=
  ∀ (g : Byte) (s : State),
    linkUp s = true →
    let r : Result := if g ≠ 0xEB then .guard else if s.hold.active then .held else .done
    commandBytes (.unlock g) = some [0x14, g] ∧ commandLength 0x14 = some 2 ∧
    Answers (.unlock g) r s (if r = .done then { s with locked := false } else s)

/-- R28: COMMIT. -/
def Obligations.CommitFreezes : Prop :=
  ∀ (g : Byte) (s : State),
    linkUp s = true →
    let r : Result :=
      if s.locked then .locked else if g ≠ 0xEE then .guard else if s.hold.active then .held
      else if s.life = .committed then .committed else .done
    commandBytes (.commit g) = some [0x11, g] ∧ commandLength 0x11 = some 2 ∧
    Answers (.commit g) r s (if r ≠ .done then s else { s with
      life := .committed
      outPins := { s.outPins with rdy := true }
      supervisor := { s.supervisor with
        state := if s.supervisor.state = .openWatch then .watch else s.supervisor.state } })

/-- R33: HOLD. -/
def Obligations.HoldOpens : Prop :=
  ∀ (n : Byte) (s : State),
    linkUp s = true →
    let r : Result :=
      if s.locked then .locked else if s.hold.active then .held else if n = 0 ∨ 4 < n.toNat then .operand else .done
    commandBytes (.hold n) = some [0x15, n] ∧ commandLength 0x15 = some 2 ∧
    Answers (.hold n) r s (if r ≠ .done then s else { s with
      hold := { active := true, remaining := n.toNat, ticks := 0, alertLow := s.outPins.alertLow } })

/-- R31 and R13: LOCK is never refused and sets the interface lock, locked or not; an unknown command leaves UNKNOWN
whatever the lock and the hold. R158: WDOFF switches off a supervisor that is in OPEN_WATCH. R164: STANDBY stops the
divider and advances the episode count; sent again, it changes nothing. -/
def Obligations.LockWdoffAndStandby : Prop :=
  ∀ (g : Byte) (s : State),
    linkUp s = true →
    let d := s.supervisor
    let off : Result :=
      if s.locked then .locked else if g ≠ 0x8D then .guard else if s.hold.active then .held
      else if s.life = .committed then .committed else if d.state = .watch ∨ d.phase = .pulsing then .state else .done
    let rest : Result :=
      if s.locked then .locked else if g ≠ 0xE9 then .guard else if s.hold.active then .held
      else if d.state ≠ .off then .state else .done
    Answers .lock .done s { s with locked := true } ∧
    Answers .unknownCommand .unknown s s ∧
    Answers (.wdoff g) off s (if off ≠ .done ∨ d.state = .off then s else
      { s with supervisor := { d with state := .off, phase := .quiet, count := 0, pulse := 0 } }) ∧
    Answers (.standby g) rest s (if rest ≠ .done ∨ s.power = .standby then s else
      { s with power := .standby, divider := 0, episode := s.episode + 1 })

/-- R170: SYSRESET returns every quantity to its reset value but the straps, the reset count, which goes up by one
and stops at 255, capture memory, the directory and the leaf sequence; the permit takes the pin's level (R49) and the
parser stays in IGNORE (R12). What stands on the line, and the queue and the pins, are no quantities of the part. -/
def Obligations.SysresetResets : Prop :=
  ∀ (prm : Bool) (s : State),
    passesFour (.sysreset 0xED prm) s = true →
    exec (.sysreset 0xED prm) s = .next { State.reset with
      pending := s.pending
      inPins := { s.inPins with prm := prm }
      straps := s.straps
      link := { s.link with parser := .ignore, latch := [], latchPos := 0 }
      resetCause := .command
      resetCount := if s.resetCount = 255 then 255 else s.resetCount + 1
      permit := prm
      recorder := { State.reset.recorder with leafSeq := s.recorder.leafSeq }
      capture := s.capture
      directory := s.directory }

/-- R21, checks 1 to 4, in their order, for every command row of the table. -/
def Obligations.FirstFourChecks : Prop :=
  ∀ (c : Instr) (s : State),
    (commandBytes c).isSome = true → linkUp s = true →
    let unlocked := s.locked = true → passesLock c = true
    (s.locked = true → passesLock c = false → Refuses c s .locked) ∧
    (unlocked → isProtected c = true → guardRight c = false → Refuses c s .guard) ∧
    (unlocked → (isProtected c = true → guardRight c = true) → s.hold.active = true →
      (isProtected c = true ∨ isHold c = true) → Refuses c s .held) ∧
    (unlocked → (isProtected c = true → guardRight c = true ∧ s.hold.active = false) → s.life = .committed →
      (isPreCommitOnly c = true ∨ isCommit c = true) → Refuses c s .committed)

/-- R21, check 5, as the owning chapters state the ranges: the commands with an operand out of its range, once the
first four checks pass (HOLD, ALERTACK and WDSET have statements of their own). -/
def Obligations.OperandsOutOfRange : Prop :=
  ∀ (a b : Byte) (x y : Half) (v : Word) (i : BitVec 24) (slots : Vector Byte 8) (s : State),
    (passesFour (.grant a b 0xEF) s = true → (32 ≤ a.toNat ∨ 32 ≤ b.toNat) → Refuses (.grant a b 0xEF) s .operand) ∧
    (passesFour (.incfg a x) s = true → (16 ≤ a.toNat ∨ 512 ≤ x.toNat) → Refuses (.incfg a x) s .operand) ∧
    (passesFour (.bankctl a) s = true → (a >>> 4) &&& ~~~a ≠ 0 → Refuses (.bankctl a) s .operand) ∧
    (passesFour (.banksnap a) s = true → (32 ≤ a.toNat ∨ a &&& 0x0F = 0) → Refuses (.banksnap a) s .operand) ∧
    (passesFour (.cntset a v) s = true → 45 ≤ a.toNat → Refuses (.cntset a v) s .operand) ∧
    (passesFour (.wrapcfg a) s = true → 16 ≤ a.toNat → Refuses (.wrapcfg a) s .operand) ∧
    (passesFour (.recctl a b) s = true → (a = 0 ∨ 3 < a.toNat) → Refuses (.recctl a b) s .operand) ∧
    (passesFour (.recctl a b) s = true → (a = 2 ∨ a = 3) → s.units.recorder = .off → 64 ≤ b.toNat →
      Refuses (.recctl a b) s .operand) ∧
    (passesFour (.reccfg i a b slots) s = true →
      (i = 0 ∨ 16 ≤ a.toNat ∨ 8 < b.toNat ∨ (a.getLsbD 1 = true ∧ b = 0) ∨
        ∃ j : Fin 8, j.val < b.toNat ∧ 45 ≤ slots[j].toNat) → Refuses (.reccfg i a b slots) s .operand) ∧
    (passesFour (.winset a b x y) s = true →
      (2 < a.toNat ∨ 2 < b.toNat ∨ (b ≠ 2 ∧ a = 1 ∧ 255 < y.toNat) ∨ (b ≠ 2 ∧ a = 2 ∧ 195 < y.toNat) ∨
        (b = 2 ∧ a ≠ 0) ∨ (b = 2 ∧ 255 < y.toNat) ∨ y.toNat < x.toNat) → Refuses (.winset a b x y) s .operand) ∧
    (passesFour (.alertmask x) s = true → 512 ≤ x.toNat → Refuses (.alertmask x) s .operand)

/-- R21, check 6, as the owning chapters state it, on operands in range (the supervisor's commands and STANDBY have
statements of their own). -/
def Obligations.StatesNotMet : Prop :=
  ∀ (a b : Byte) (k : Fin 45) (v : Word) (i : BitVec 24) (slots : Vector Byte 8) (tag : Half) (s : State),
    (passesFour (.cntset (BitVec.ofNat 8 k.val) v) s = true → s.units.bank (bankOf k) ≠ .ready →
      Refuses (.cntset (BitVec.ofNat 8 k.val) v) s .state) ∧
    (passesFour (.bankctl a) s = true → (a >>> 4) &&& ~~~a = 0 →
      (∃ b ∈ [Bank.edge, .dwell, .link, .tally], s.units.bank b = .locked ∧ a.getLsbD b.index = true) →
      Refuses (.bankctl a) s .transition) ∧
    (passesFour (.recctl a b) s = true → (a = 2 ∨ a = 3) → s.units.recorder = .locked →
      Refuses (.recctl a b) s .transition) ∧
    (passesFour (.recctl 3 b) s = true → s.units.recorder = .ready → s.recorder.cursor.placed = false →
      Refuses (.recctl 3 b) s .state) ∧
    (passesFour (.reccfg i a b slots) s = true →
      (i ≠ 0 ∧ a.toNat < 16 ∧ b.toNat ≤ 8 ∧ (a.getLsbD 1 = true → b ≠ 0) ∧
        ∀ j : Fin 8, j.val < b.toNat → slots[j].toNat < 45) →
      (s.units.recorder = .ready ∨ s.units.recorder = .running) →
      Refuses (.reccfg i a b slots) s .state) ∧
    (passesFour (.release a) s = true → s.recorder.cursor.placed = true → s.recorder.cursor.blocked = false →
      s.recorder.cursor.leaf = a → Refuses (.release a) s .state) ∧
    (passesFour .sealnow s = true → (s.recorder.cursor.placed = false ∨ s.recorder.cursor.blocked = true ∨
      s.recorder.cursor.offset = 0) → Refuses .sealnow s .state) ∧
    (passesFour (.mark a tag) s = true → s.units.recorder ≠ .running → Refuses (.mark a tag) s .state)

/-- R22: a refused command, of whatever kind, changes nothing but the last result, its LINK count and the hold
accounting (and the parser's place in the transaction, R12). -/
def Obligations.RefusedCommandChangesNothing : Prop :=
  ∀ (c : Instr) (s : State),
    isCommand c = true → linkUp s = true →
    ∀ t, exec c s = .next t → t.lastResult ≠ .done → Answers c t.lastResult s s

/-- R34, R36: every command that completes inside a hold counts toward it, whatever its result, and the last one
ends it: the deferral is settled, the queue is drained and ALERT# is evaluated again. -/
def Obligations.HoldCountsCommands : Prop :=
  ∀ (c : Instr) (s : State),
    isCommand c = true → linkUp s = true → s.hold.active = true →
    (2 ≤ s.hold.remaining →
      ∃ t, exec c s = .next t ∧ t.hold = { s.hold with remaining := s.hold.remaining - 1 }) ∧
    (s.hold.remaining ≤ 1 → (s.recorder.deferred = false → s.recorder.missed = 0) →
      ∃ t, exec c s = .next t ∧
        t.hold = { active := false, remaining := 0, ticks := 0, alertLow := false } ∧
        t.recorder.deferred = false ∧ t.recorder.missed = 0 ∧ t.recorder.queue = [] ∧ PinSet t)

/-! ## Timebase, inputs and alerts -/

/-- R46, R50 (and R54), R86, R87 and R146: the commands that replace a setting. TBSET stores the prescaler
and restarts the divider; INCFG replaces the five fields of the named input and restarts its filter; CNTSET writes the
named counter, whose bank is Ready, and no wrap set; WRAPCFG replaces the four enables; ALERTMASK replaces the mask. -/
def Obligations.SettingsCommands : Prop :=
  ∀ (p : Byte) (n : Fin 16) (k : Fin 45) (config : Half) (value : Word) (s : State),
    (passesFour (.tbset p) s = true → Accepts (.tbset p) s { s with prescaler := p, divider := 0 }) ∧
    (passesFour (.incfg (BitVec.ofNat 8 n.val) config) s = true → config.toNat < 512 →
      Accepts (.incfg (BitVec.ofNat 8 n.val) config) s { s with
        inputs := s.inputs.set n.val { s.inputs[n] with
          filter := config.extractLsb' 0 4
          inverted := config.getLsbD 4
          mode := if config.extractLsb' 5 2 = 0 then .none else if config.extractLsb' 5 2 = 1 then .rise
            else if config.extractLsb' 5 2 = 2 then .fall else .both
          trig := config.getLsbD 7
          wake := config.getLsbD 8
          stab := 0 } }) ∧
    (passesFour (.cntset (BitVec.ofNat 8 k.val) value) s = true → s.units.bank (bankOf k) = .ready →
      Accepts (.cntset (BitVec.ofNat 8 k.val) value) s
        { s with counters := { s.counters with value := s.counters.value.set k.val value } }) ∧
    (passesFour (.wrapcfg p) s = true → p.toNat < 16 →
      Accepts (.wrapcfg p) s { s with counters := { s.counters with wrapAlert := p.setWidth 4 } }) ∧
    (passesFour (.alertmask config) s = true → config.toNat < 512 →
      Accepts (.alertmask config) s { s with alerts := { s.alerts with mask := config } })

/-- R149: ALERTACK. -/
def Obligations.AlertackRemovesCauses : Prop :=
  ∀ (mask : Half) (s : State),
    linkUp s = true →
    let r : Result := if s.locked then .locked else if mask.extractLsb' 9 7 ≠ 0 then .operand else .done
    commandBytes (.alertack mask) = some [0x61, mask.extractLsb' 0 8, mask.extractLsb' 8 8] ∧
    commandLength 0x61 = some 3 ∧
    Answers (.alertack mask) r s (if r ≠ .done then s else { s with alerts := { s.alerts with
      raised := s.alerts.raised &&& ~~~mask
      faultKind := if mask.getLsbD 0 then .none else s.alerts.faultKind
      faultEntry := if mask.getLsbD 0 then 0 else s.alerts.faultEntry } })

/-- R132: an accepted WINSET sets the whole window, the pointer at the first byte of the walk. -/
def Obligations.WinsetPlacesThePointer : Prop :=
  ∀ (space : Space) (walk : Walk) (start stop : Half) (s : State),
    passesFour (.winset (spaceCode space) (walkCode walk) start stop) s = true →
    start.toNat ≤ stop.toNat →
    (walk = .seals → space = .capture ∧ stop.toNat ≤ 255) →
    (walk ≠ .seals → (space = .directory → stop.toNat ≤ 255) ∧ (space = .freeze → stop.toNat ≤ 195)) →
    Accepts (.winset (spaceCode space) (walkCode walk) start stop) s { s with
      window := { s.window with
        space := space, walk := walk, start := start, stop := stop, exhausted := false
        ptr := if walk = .seals then BitVec.ofNat 16 (256 * start.toNat + 240) else start } }

/-! ## Grants and counter banks -/

/-- R60 to R66 and R151, at the two events that evaluate G: an accepted GRANT with its new masks, and step 2 of a tick
that recognizes a permit change (R48). -/
def Obligations.EvaluationOfGrants : Prop :=
  ∀ (grantMask guardMask : Byte) (prm : Bool) (s : State),
    s.recorder.queue = [] →
    (passesFour (.grant grantMask guardMask 0xEF) s = true → grantMask.toNat < 32 → guardMask.toNat < 32 →
      Accepts (.grant grantMask guardMask 0xEF) s
        (afterEvaluation { s with grantMask := grantMask.setWidth 5, guardMask := guardMask.setWidth 5 })) ∧
    (ticking s = true → prm ≠ s.permit → s.permitStab = 7 →
      exec (.permitChange prm) s = .next (afterEvaluation { s with permit := prm, permitStab := 0 })) ∧
    (prm = s.permit ∨ s.permitStab ≠ 7 → exec (.permitChange prm) s = .next s)

/-- R69, R72 and R151: an accepted BANKCTL moves all four banks at once. -/
def Obligations.BankctlMovesAllBanks : Prop :=
  ∀ (control : Byte) (s : State),
    passesFour (.bankctl control) s = true → (control >>> 4) &&& ~~~control = 0 →
    (∀ b ∈ [Bank.edge, .dwell, .link, .tally], s.units.bank b = .locked → control.getLsbD b.index = false) →
    Accepts (.bankctl control) s (afterBankctl control s)

/-- R88 and R89: an accepted BANKSNAP copies the counters and the wrap sets of the selected banks into the freeze
image, writes the header, leaves every other byte of the image, and then empties the wrap sets of those banks if
clear-wrap is set. -/
def Obligations.BanksnapCopiesBanks : Prop :=
  ∀ (selection : Byte) (s : State),
    passesFour (.banksnap selection) s = true → selection.toNat < 32 → selection &&& 0x0F ≠ 0 →
    s.freeze.wf 196 →
    let chosen (k : Fin 45) : Bool := selection.getLsbD (bankOf k).index
    ∃ t : State, Accepts (.banksnap selection) s t ∧
      t = { s with
        freeze := t.freeze
        counters := { s.counters with
          wrapped := Vector.ofFn fun k => s.counters.wrapped[k] && !(selection.getLsbD 4 && chosen k) } } ∧
      (∀ i : Fin 4, t.freeze.read i = s.timebase.extractLsb' (8 * i.val) 8) ∧
      t.freeze.read 4 = selection &&& 0x0F ∧
      (∀ b ∈ [Bank.edge, .dwell, .link, .tally],
        ((t.freeze.read 5).getLsbD b.index = true ↔ s.units.bank b = .running)) ∧
      (t.freeze.read 5).extractLsb' 4 4 = 0 ∧ t.freeze.read 6 = 0 ∧ t.freeze.read 7 = 0 ∧
      (∀ (k : Fin 45) (i : Fin 4), t.freeze.read (8 + 4 * k.val + i.val) =
        if chosen k then (s.counters.value[k]).extractLsb' (8 * i.val) 8
        else s.freeze.read (8 + 4 * k.val + i.val)) ∧
      (∀ k : Fin 45, (t.freeze.read (wrapPlace k).1).getLsbD (wrapPlace k).2 =
        if chosen k then s.counters.wrapped[k] else (s.freeze.read (wrapPlace k).1).getLsbD (wrapPlace k).2) ∧
      (t.freeze.read 193).extractLsb' 5 3 =
        (if selection.getLsbD 3 then 0 else (s.freeze.read 193).extractLsb' 5 3) ∧
      ∀ a, 194 ≤ a → t.freeze.read a = s.freeze.read a

/-! ## The recorder -/

/-- R73, R105, R108, R109 and R150: the moves of RECCTL that need no start entry, the requests that change nothing, and
RECCFG, which stores every operand. -/
def Obligations.RecctlMovesAndReccfgStores : Prop :=
  ∀ (start : Byte) (interval : BitVec 24) (kinds k : Byte) (slots : Vector Byte 8) (s : State),
    (passesFour (.recctl 1 start) s = true → (s.units.recorder = .off ∨ s.units.recorder = .locked) →
      Accepts (.recctl 1 start) s s) ∧
    (passesFour (.recctl 2 start) s = true → s.units.recorder = .ready → Accepts (.recctl 2 start) s s) ∧
    (passesFour (.recctl 3 start) s = true → s.units.recorder = .running → Accepts (.recctl 3 start) s s) ∧
    (passesFour (.recctl 3 start) s = true → s.units.recorder = .ready → s.recorder.cursor.placed = true →
      Accepts (.recctl 3 start) s { s with
        units := { s.units with recorder := .running }
        recorder := { s.recorder with countdown := some s.recorder.config.interval } }) ∧
    (passesFour (.recctl 2 start) s = true → s.units.recorder = .running →
      Accepts (.recctl 2 start) s { s with
        units := { s.units with recorder := .ready }
        recorder := { s.recorder with countdown := none } }) ∧
    (passesFour (.recctl 1 start) s = true → (s.units.recorder = .ready ∨ s.units.recorder = .running) →
      s.recorder.queue = [] →
      Accepts (.recctl 1 start) s { s with
        units := { s.units with recorder := .off }
        recorder := recorderOff s.recorder
        alerts := withoutRecorderCauses s.alerts }) ∧
    (passesFour (.reccfg interval kinds k slots) s = true →
      interval ≠ 0 → kinds.toNat < 16 → k.toNat ≤ 8 → (kinds.getLsbD 1 = true → k ≠ 0) →
      (∀ j : Fin 8, j.val < k.toNat → slots[j].toNat < 45) →
      (s.units.recorder = .off ∨ s.units.recorder = .locked) →
      Accepts (.reccfg interval kinds k slots) s { s with
        recorder := { s.recorder with
          config := { interval := interval, snap := kinds.getLsbD 0, extended := kinds.getLsbD 1
                      events := kinds.getLsbD 2, supervisor := kinds.getLsbD 3, k := k.toNat, slots := slots } } })

/-- R106 and R107: a move out of Off. The start entry is a STORE in range, or a LINK to one; the cursor stands at that
STORE's first leaf, blocked if the leaf is sealed, and otherwise the leaf is entered (R123). A start entry that does not
resolve so is refused with OPERAND: STOP, VOID, a LINK to anything but a STORE, and a run that is out of range. -/
def Obligations.RecctlStartsOrRefuses : Prop :=
  ∀ (target : Byte) (i : BitVec 6) (s : State),
    passesFour (.recctl target (i.setWidth 8)) s = true → s.units.recorder = .off →
    (target = 2 ∨ target = 3) →
    let kind := entryByte s.directory i 0
    let e := if kind = 2 then (entryByte s.directory i 1).setWidth 6 else i
    let resolves := (kind = 1 ∨ kind = 2) ∧ entryByte s.directory e 0 = 1 ∧
      (entryByte s.directory e 1).toNat + (entryByte s.directory e 2).toNat + 1 ≤ 256
    let leaf := entryByte s.directory e 1
    let occupied := isSealed s leaf
    (¬resolves → Refuses (.recctl target (i.setWidth 8)) s .operand) ∧
    (resolves → s.capture.wf 65536 →
      ∃ t : State, Accepts (.recctl target (i.setWidth 8)) s t ∧
        t = { s with
          units := { s.units with recorder := if target = 3 then .running else .ready }
          recorder := { s.recorder with
            cursor := { entry := e, leaf := leaf, offset := 0, placed := true, blocked := occupied }
            records := if occupied then s.recorder.records else 0
            snapSeq := 0
            countdown := if target = 3 then some s.recorder.config.interval else none }
          capture := t.capture } ∧
        (occupied = true → t.capture = s.capture) ∧
        (occupied = false →
          Entered leaf ((leafByte s leaf 240).getLsbD 1 || (entryByte s.directory e 3).getLsbD 0) s t))

/-- R127 and R128: RELEASE clears the seal of a sealed leaf, and lets a writer that is blocked on it enter it; a leaf
that is neither sealed nor being written is left alone. NOTEMARK sets NOTIFY; that it keeps bits 7 to 2 of byte 240 is
the model's choice (log entry 14). -/
def Obligations.ReleaseAndNotemark : Prop :=
  ∀ (leaf : Byte) (s : State),
    s.capture.wf 65536 →
    let c := s.recorder.cursor
    let bySeal := (leafByte s leaf 240).getLsbD 0
    (passesFour (.release leaf) s = true → bySeal = false → ¬(c.placed = true ∧ c.blocked = false ∧ c.leaf = leaf) →
      Accepts (.release leaf) s s) ∧
    (passesFour (.release leaf) s = true → bySeal = true → (c.placed = true → c.leaf ≠ leaf) →
      ∃ t : State, Accepts (.release leaf) s t ∧ t = { s with capture := t.capture } ∧
        SealReads leaf (fun _ => 0) s t) ∧
    (passesFour (.release leaf) s = true → bySeal = true → c.placed = true → c.blocked = true → c.leaf = leaf →
      ∃ t : State, Accepts (.release leaf) s t ∧
        t = { s with
          capture := t.capture
          recorder := { s.recorder with cursor := { c with blocked := false, offset := 0 }, records := 0 } } ∧
        Entered leaf ((entryByte s.directory c.entry 3).getLsbD 0) s t) ∧
    (passesFour (.notemark leaf) s = true →
      ∃ t : State, Accepts (.notemark leaf) s t ∧ t = { s with capture := t.capture } ∧
        SealReads leaf (fun i => if i.val = 0 then leafByte s leaf 240 ||| 2 else leafByte s leaf (240 + i.val)) s t)

/-- R122 to R126 and R129: an accepted SEALNOW seals the leaf, zero-filling the rest of the record area, writing the
sixteen seal bytes, advancing the leaf sequence, counting in TALLY counter 44 and raising SEAL_NOTE exactly if NOTIFY is
set, and then advances the cursor. Nothing else changes. -/
def Obligations.SealnowSealsTheLeaf : Prop :=
  ∀ s : State,
    passesFour .sealnow s = true → s.capture.wf 65536 →
    s.recorder.cursor.placed = true → s.recorder.cursor.blocked = false →
    0 < s.recorder.cursor.offset → s.recorder.cursor.offset ≤ 240 →
    ∃ u t : State, Seals s u ∧ Advances u t ∧ Accepts .sealnow s t

/-- R123 to R126: where the cursor goes at the end of a seal. -/
def Obligations.SealedLeafAdvances : Prop :=
  ∀ s : State,
    passesFour .sealnow s = true → s.capture.wf 65536 → s.recorder.queue = [] → RunOk s →
    s.recorder.cursor.placed = true → s.recorder.cursor.blocked = false →
    0 < s.recorder.cursor.offset → s.recorder.cursor.offset ≤ 240 →
    let c := s.recorder.cursor
    let d := s.directory
    let last := (entryByte d c.entry 1).toNat + (entryByte d c.entry 2).toNat
    let i := c.entry + 1
    let link := entryByte d i 0 = 2
    let e := if link then (entryByte d i 1).setWidth 6 else i
    let kind := entryByte d e 0
    let inRange := (entryByte d e 1).toNat + (entryByte d e 2).toNat + 1 ≤ 256
    let stands (t : State) (entry : BitVec 6) (leaf : Byte) : Prop :=
      t.units = s.units ∧
      t.recorder.cursor = { entry := entry, leaf := leaf, offset := 0, placed := true
                            blocked := (leafByte s leaf 240).getLsbD 0 || leaf == c.leaf }
    let ended (t : State) (entry : BitVec 6) : Prop :=
      t.units.recorder = .ready ∧ t.recorder.countdown = none ∧
      t.recorder.cursor = { entry := entry, leaf := c.leaf, offset := 0, placed := false, blocked := false }
    let faulted (t : State) (kind : FaultKind) (entry : BitVec 6) : Prop :=
      ended t entry ∧ t.alerts.raised.getLsbD 0 = true ∧
      t.alerts.faultKind = (if s.alerts.raised.getLsbD 0 then s.alerts.faultKind else kind) ∧
      t.alerts.faultEntry = (if s.alerts.raised.getLsbD 0 then s.alerts.faultEntry else entry)
    (s.units.recorder = .running ∨ (s.units.recorder = .ready ∧ s.recorder.countdown = none)) →
    ∃ t : State, Accepts .sealnow s t ∧
      (c.leaf.toNat < last → stands t c.entry (c.leaf + 1)) ∧
      (c.leaf.toNat = last → c.entry = 63 → faulted t .endOfDirectory 63) ∧
      (c.leaf.toNat = last → c.entry ≠ 63 → kind = 1 → inRange → stands t e (entryByte d e 1)) ∧
      (c.leaf.toNat = last → c.entry ≠ 63 → kind = 1 → ¬inRange → faulted t .range i) ∧
      (c.leaf.toNat = last → c.entry ≠ 63 → kind = 2 → faulted t .linkChain i) ∧
      (c.leaf.toNat = last → c.entry ≠ 63 → kind = 3 → ended t i ∧ t.alerts.raised.getLsbD 2 = true) ∧
      (c.leaf.toNat = last → c.entry ≠ 63 → kind ≠ 1 → kind ≠ 2 → kind ≠ 3 → faulted t .void i)

/-- R98, R110, R117 to R121, R125 and R126: MARK offers its record, and the writer drains the queue within the same
event. Where the record fits, it is placed with its end marker behind it; where the writer is blocked, it is dropped;
where it does not fit, the leaf is sealed and the cursor advances, and the record is then placed in the leaf entered,
dropped at an occupied leaf, or discarded with a count to TALLY counter 43 if the walk has ended. -/
def Obligations.MarkOffersItsRecord : Prop :=
  ∀ (cls : Byte) (tag : Half) (s : State),
    passesFour (.mark cls tag) s = true → s.units.recorder = .running → WriterReady s →
    let c := s.recorder.cursor
    let o := offer (.mark cls tag (s.timebase.setWidth 32)) s
    let bytes : List Byte := [0x42, cls, tag.extractLsb' 0 8, tag.extractLsb' 8 8] ++
      (List.range 4).map fun i => s.timebase.extractLsb' (8 * i) 8
    (∃ t : State, Drains o.recorder.queue o t ∧ Accepts (.mark cls tag) s t) ∧
    (NothingWaits s → c.blocked = true → ∃ t : State, Drops s t ∧ Accepts (.mark cls tag) s t) ∧
    (NothingWaits s → c.blocked = false → c.offset + 8 ≤ 240 →
      ∃ t : State, Places bytes s t ∧ Accepts (.mark cls tag) s t) ∧
    (NothingWaits s → c.blocked = false → 240 < c.offset + 8 →
      ∃ u v t : State, Seals s u ∧ Advances u v ∧
        (v.recorder.cursor.placed = true → v.recorder.cursor.blocked = false → Places bytes v t) ∧
        (v.recorder.cursor.placed = true → v.recorder.cursor.blocked = true → Drops v t) ∧
        (v.recorder.cursor.placed = false → Discards 1 v t) ∧
        Accepts (.mark cls tag) s t)

/-- R112: the four cases of the offer rule, for every occupancy of the queue. -/
def Obligations.OfferRule : Prop :=
  ∀ (r : Rec) (s : State),
    let n := s.recorder.queue.length
    let tally := s.recorder.lossCount
    let more : Half := if tally = 0xFFFF then 0xFFFF else tally + 1
    let first := s.recorder.lossTime.getD 0
    let lost (t : State) : Prop :=
      Counted (fun k => k == 41) { s with alerts := { s.alerts with raised := s.alerts.raised ||| 8 } } t
    let rest (t : State) : State :=
      { s with
        recorder := { s.recorder with
          queue := t.recorder.queue, lossCount := t.recorder.lossCount, lossTime := t.recorder.lossTime }
        counters := t.counters
        alerts := { s.alerts with raised := t.alerts.raised } }
    let t := offer r s
    t = rest t ∧
    (8 ≤ n → t.recorder.queue = s.recorder.queue ∧ t.recorder.lossCount = more ∧
      t.recorder.lossTime = (if tally = 0 then some r.time else s.recorder.lossTime) ∧ lost t) ∧
    (n < 7 → tally ≠ 0 → t.recorder.queue = s.recorder.queue ++ [.loss tally first, r] ∧
      t.recorder.lossCount = 0 ∧ t.recorder.lossTime = none ∧ t.counters = s.counters ∧ t.alerts = s.alerts) ∧
    (n = 7 → tally ≠ 0 → t.recorder.queue = s.recorder.queue ++ [.loss more first] ∧
      t.recorder.lossCount = 0 ∧ t.recorder.lossTime = none ∧ lost t) ∧
    (n < 8 → tally = 0 → t = { s with recorder := { s.recorder with queue := s.recorder.queue ++ [r] } })

/-- R95 and R96: the bytes of a snapshot, taken from the state at its event, and R97 to R99: the bytes of the other
records. -/
def Obligations.SnapshotBytes : Prop :=
  ∀ (deferred : Bool) (missed : BitVec 4) (s : State),
    ConfigOk s →
    let bytes := (snapshotRecord deferred missed s).bytes
    let b (i : Nat) : Byte := bytes.getD i 0
    let k := s.recorder.config.k
    let extended := s.recorder.config.extended
    let unitOf (c : Fin 45) : UnitState :=
      if c.val < 16 then s.units.edge else if c.val < 32 then s.units.dwell
      else if c.val < 40 then s.units.link else s.units.tally
    let two (x : Half) : List Byte := [x.extractLsb' 0 8, x.extractLsb' 8 8]
    let four (x : Word) : List Byte := [x.extractLsb' 0 8, x.extractLsb' 8 8, x.extractLsb' 16 8, x.extractLsb' 24 8]
    bytes.length = (if extended then 16 + 4 * k else 12) ∧
    b 0 = (if extended then BitVec.ofNat 8 (0x24 + k) else 0x13) ∧
    (b 1).getLsbD 0 = deferred ∧ (b 1).extractLsb' 1 3 = 0 ∧ (b 1).extractLsb' 4 4 = missed ∧
    (∀ n : Fin 16, (b 3 ++ b 2 : Half).getLsbD n = s.inputs[n].level) ∧
    (∀ i : Fin 4, b (4 + i) = s.timebase.extractLsb' (8 * i.val) 8) ∧
    b 9 ++ b 8 = s.recorder.snapSeq ∧ b 10 = s.recorder.cursor.leaf ∧
    (∀ u ∈ [Bank.edge, .dwell, .link, .tally], ((b 11).getLsbD u.index = true ↔ s.units.bank u = .running)) ∧
    (b 11).extractLsb' 4 4 = 0 ∧
    (extended = true →
      b 13 = BitVec.ofNat 8 k ∧ b 14 = 0 ∧ b 15 = 0 ∧
      (∀ j : Fin 8, k ≤ j.val → (b 12).getLsbD j = false) ∧
      ∀ (j : Fin 8) (c : Fin 45), j.val < k → s.recorder.config.slots[j].toNat = c.val →
        ((b 12).getLsbD j = true ↔ unitOf c = .running) ∧
        ∀ i : Fin 4, b (16 + 4 * j.val + i.val) = s.counters.value[c].extractLsb' (8 * i.val) 8) ∧
    (∀ (input : BitVec 4) (rising : Bool) (count : Half) (time : Word), (Rec.event input rising count time).bytes =
      [0x32, BitVec.ofNat 8 (input.toNat + if rising then 16 else 0)] ++ two count ++ four time) ∧
    (∀ (cls : Byte) (tag : Half) (time : Word), (Rec.mark cls tag time).bytes = [0x42, cls] ++ two tag ++ four time) ∧
    (∀ (fired : Bool) (tally e : Byte) (time : Word), (Rec.supervisor fired tally e time).bytes =
      [0x52, if fired then 2 else 1, tally, e] ++ four time) ∧
    (∀ (host : Bool) (input : BitVec 4) (episode : Byte) (time : Word), (Rec.resume host input episode time).bytes =
      [0x62, if host then 1 else 2, BitVec.ofNat 8 input.toNat, episode] ++ four time) ∧
    ∀ (count : Half) (time : Word), (Rec.loss count time).bytes = [0x72, 0] ++ two count ++ four time

/-! ## The tick -/

/-- R35, R44, R45, R47, R48, R51 to R53 and R159 to R161: what a tick makes of the timebase, the divider, the PRM
filter, the conditioners, the supervisor and the hold; the queue is empty and ALERT# evaluated at its end (R110, R147),
and no tick touches the rest. What it makes of the units, the counters, the causes, the recorder and capture memory is
the nine steps in their order: steps 1 to 7 as `beforeDrain` says, then the drain of the queue (R118), then ALERT#. -/
def Obligations.TickAdvances : Prop :=
  ∀ (prm : Bool) (ev : Half) (s : State),
    ticking s = true → 1 ≤ s.supervisor.e →
    let flips := permitFlips prm s
    let p := beforeDrain prm ev s
    ∃ t, exec (.tick prm ev) s = .next t ∧
      (s.recorder.queue = [] → WriterReady s → ∃ u : State, Drains p.recorder.queue p u ∧
        t = { u with outPins := { u.outPins with alertLow := t.outPins.alertLow } }) ∧
      t.timebase = s.timebase + 1 ∧ t.divider = 0 ∧
      t.permit = (if flips then prm else s.permit) ∧
      t.permitStab = (if prm = s.permit ∨ flips = true then 0 else s.permitStab + 1) ∧
      (∀ n : Fin 16, t.inputs[n] = conditioned (candidateOf (ev.getLsbD n) s.inputs[n]) s.inputs[n]) ∧
      t.supervisor = supervised s.supervisor ∧
      t.outPins.hrstLow = (if fires s.supervisor then true else if pulseEnds s.supervisor then false
        else s.outPins.hrstLow) ∧
      t.hold = heldOn s.hold ∧ t.recorder.queue = [] ∧ PinSet t ∧
      t = { s with
        timebase := t.timebase, divider := t.divider, permit := t.permit, permitStab := t.permitStab
        inPins := { s.inPins with prm := prm, ev := ev }
        inputs := t.inputs
        supervisor := t.supervisor
        outPins := { s.outPins with alertLow := t.outPins.alertLow, hrstLow := t.outPins.hrstLow }
        hold := t.hold
        units := t.units
        counters := { s.counters with value := t.counters.value, wrapped := t.counters.wrapped }
        alerts := { t.alerts with mask := s.alerts.mask }
        capture := t.capture
        recorder := { t.recorder with config := s.recorder.config } }

/-- R48, R67, R77, R78 and R81: the counts of the EDGE, DWELL and LINK banks at a tick, with the banks as step 2 leaves
them: at a tick that recognizes a permit change a revoked bank is cleared and counts nothing. -/
def Obligations.TickCounts : Prop :=
  ∀ (prm : Bool) (ev : Half) (s : State),
    ticking s = true → 1 ≤ s.supervisor.e → s.recorder.queue = [] →
    let p := if permitFlips prm s then afterEvaluation { s with permit := prm } else s
    ∃ t, exec (.tick prm ev) s = .next t ∧
      (∀ n : Fin 16,
        let c := s.inputs[n]
        let raw := ev.getLsbD n
        let edges := hasEdge raw c && qualified c.mode (candidateOf raw c)
        let dwells := (conditioned (candidateOf raw c) c).level
        t.counters.value[n.val] =
          (if edges = true ∧ p.units.edge = .running then p.counters.value[n.val] + 1 else p.counters.value[n.val]) ∧
        t.counters.value[16 + n.val] =
          (if dwells = true ∧ p.units.dwell = .running then p.counters.value[16 + n.val] + 1
           else p.counters.value[16 + n.val])) ∧
      ∀ k : Fin 8, t.counters.value[32 + k.val] =
        if k.val = 7 ∧ fires s.supervisor = true ∧ p.units.link = .running then p.counters.value[32 + k.val] + 1
        else p.counters.value[32 + k.val]

/-- R159 to R162: the warning, the firing and the end of the pulse, each at the tick at which it comes about, with
its SUPERVISOR record if one is offered. At any other tick the row changes nothing (log entry 6). -/
def Obligations.SupervisorEvents : Prop :=
  ∀ s : State,
    ticking s = true → 1 ≤ s.supervisor.e → NothingWaits s →
    let w := s.supervisor
    let offered (fired : Bool) : List Rec :=
      if s.units.recorder = .running ∧ s.recorder.config.supervisor = true then
        [.supervisor fired (supervised w).tally (BitVec.ofNat 8 w.e) (s.timebase.setWidth 32)] else []
    (warns w = true → exec .wdWarn s = .next { s with
      supervisor := supervised w
      alerts := { s.alerts with raised := s.alerts.raised ||| 0x40 }
      recorder := { s.recorder with queue := offered false } }) ∧
    (fires w = true →
      ∃ t, exec .wdFired s = .next t ∧
        Counted (fun k => k == 39) { s with alerts := { s.alerts with raised := s.alerts.raised ||| 0x80 } } t ∧
        t = { s with
          supervisor := supervised w
          outPins := { s.outPins with hrstLow := true }
          counters := t.counters
          alerts := { s.alerts with raised := t.alerts.raised }
          recorder := { s.recorder with queue := offered true } }) ∧
    (pulseEnds w = true → exec .pulseEnd s = .next { s with
      supervisor := supervised w, outPins := { s.outPins with hrstLow := false } }) ∧
    (warns w = false → exec .wdWarn s = .next s) ∧
    (fires w = false → exec .wdFired s = .next s) ∧
    (pulseEnds w = false → exec .pulseEnd s = .next s)

/-- R52, R55, R56, R77 and R97: the edge of one input: its level, its EDGE count if it is qualified, and then its EVENT
record if the three conditions hold. Where no edge occurs the row changes nothing (log entry 6). -/
def Obligations.InputEdgeCountsAndTriggers : Prop :=
  ∀ (n : Fin 16) (raw : Bool) (s : State),
    ticking s = true → NothingWaits s →
    let c := s.inputs[n]
    let rising := candidateOf raw c
    let counts := qualified c.mode rising
    let edge : Fin 45 := ⟨n.val, by omega⟩
    let count : Half := if s.units.edge = .running then (s.counters.value[edge] + 1).setWidth 16 else 0
    (hasEdge raw c = true →
      ∃ t, exec (.inputEdge n raw) s = .next t ∧ Counted (fun k => counts && k == edge) s t ∧
        t = { s with
          inputs := s.inputs.set n.val { c with level := rising, stab := 0 }
          counters := t.counters
          alerts := { s.alerts with raised := t.alerts.raised }
          recorder := { s.recorder with queue :=
            if counts = true ∧ c.trig = true ∧ s.units.recorder = .running ∧ s.recorder.config.events = true
            then [.event (BitVec.ofNat 4 n.val) rising count (s.timebase.setWidth 32)] else [] } }) ∧
    (hasEdge raw c = false → exec (.inputEdge n raw) s = .next s)

/-- R114 to R116: a sampling point reloads the countdown; with SNAP on it offers a snapshot, or is deferred while a
hold is active. Where no sampling point occurs the row changes nothing (log entry 6). -/
def Obligations.SamplingPointSnapsOrDefers : Prop :=
  ∀ s : State,
    ticking s = true → NothingWaits s →
    let due := s.units.recorder = .running ∧ s.recorder.countdown = some 1
    let again : Recorder := { s.recorder with countdown := some s.recorder.config.interval }
    (due → s.recorder.config.snap = false → exec .samplingPoint s = .next { s with recorder := again }) ∧
    (due → s.recorder.config.snap = true → s.hold.active = true →
      exec .samplingPoint s = .next { s with recorder := { again with
        deferred := true
        missed := if s.recorder.deferred = false then s.recorder.missed
          else if s.recorder.missed = 15 then 15 else s.recorder.missed + 1 } }) ∧
    (due → s.recorder.config.snap = true → s.hold.active = false →
      exec .samplingPoint s = .next { s with recorder := { again with
        queue := [snapshotRecord false 0 s], snapSeq := s.recorder.snapSeq + 1 } }) ∧
    (¬due → exec .samplingPoint s = .next s)

/-- R35, R36 and R116: the two events that end a hold without a reset, the 256th tick and the last counted command:
the hold is inactive, the deferral is settled (one snapshot if the recorder is Running), the queue is drained and
ALERT# is evaluated. That the two stand apart from their tick and completion is the model's choice (log entry 6). -/
def Obligations.HoldEndEvents : Prop :=
  ∀ (c : Instr) (s : State),
    ((c = .holdTickLimit ∧ ticking s = true ∧ s.hold.ticks = 255) ∨
      (c = .holdCommandsDone ∧ linkUp s = true ∧ s.hold.remaining = 1)) →
    s.hold.active = true →
    let ended : Hold := { active := false, remaining := 0, ticks := 0, alertLow := false }
    let p := holdEnded s
    (WriterReady s → ∃ t, exec c s = .next t ∧ PinSet t ∧ ∃ u : State, Drains p.recorder.queue p u ∧
      t = { u with outPins := { u.outPins with alertLow := t.outPins.alertLow } }) ∧
    (s.recorder.queue = [] → (s.recorder.deferred = false ∨ s.units.recorder ≠ .running) →
      exec c s = .next { s with
        hold := ended
        recorder := { s.recorder with
          deferred := false, missed := if s.recorder.deferred then 0 else s.recorder.missed }
        outPins := { s.outPins with alertLow := decide (s.alerts.raised &&& s.alerts.mask ≠ 0) } }) ∧
    (s.recorder.deferred = true → s.units.recorder = .running →
      ∃ t, exec c s = .next t ∧ t.hold = ended ∧ t.recorder.deferred = false ∧ t.recorder.missed = 0 ∧
        t.recorder.queue = [] ∧ t.recorder.snapSeq = s.recorder.snapSeq + 1 ∧ PinSet t) ∧
    (s.recorder.deferred = true → s.units.recorder = .running → s.recorder.config.extended = false →
      NothingWaits s → HasRoom 12 s → s.capture.wf 65536 →
      ∃ t, exec c s = .next t ∧ Counted (fun k => k == 40) s t ∧
        Placed (snapshotRecord true s.recorder.missed s).bytes s t ∧
        t = { s with
          hold := ended
          recorder := { s.recorder with
            deferred := false, missed := 0, snapSeq := s.recorder.snapSeq + 1
            cursor := { s.recorder.cursor with offset := s.recorder.cursor.offset + 12 }
            records := s.recorder.records + 1 }
          counters := t.counters
          alerts := { s.alerts with raised := t.alerts.raised }
          capture := t.capture
          outPins := { s.outPins with alertLow := t.outPins.alertLow } })

/-! ## Standby, wake and the resets -/

/-- R166 and R167: a transaction start while none is open, or a change of an input whose WAKE field is on, ends
STANDBY; a Running recorder gets a RESUME record, which the writer handles at once. Any other change of the pins, and
any in RUN, wakes nothing. R168 and R169: in INIT, while RST# is held low and without supply no wake source is watched;
that the row then turns over the levels it names and no more is the model's choice (log entries 9 and 13). -/
def Obligations.WakeResumes : Prop :=
  ∀ (host : Bool) (changed : Half) (n : Fin 16) (s : State),
    let hosted := host = true ∧ s.link.parser = .idle
    let input := changed.getLsbD n = true ∧ s.inputs[n].wake = true ∧
      ∀ m : Fin 16, m < n → ¬(changed.getLsbD m = true ∧ s.inputs[m].wake = true)
    let sourced := ∃ m : Fin 16, changed.getLsbD m = true ∧ s.inputs[m].wake = true
    (linkUp s = false ∨ s.power = .run ∨ (¬hosted ∧ ¬sourced) →
      exec (.wake host changed) s =
        .next { s with inPins := { s.inPins with ev := s.inPins.ev ^^^ changed } }) ∧
    (linkUp s = true → s.power = .standby → (hosted ∨ sourced) → s.recorder.queue = [] → s.units.recorder ≠ .running →
      ∃ t, exec (.wake host changed) s = .next t ∧ WokenQuietly changed s t) ∧
    (linkUp s = true → s.power = .standby → (hosted ∨ input) → WriterReady s → s.units.recorder = .running →
      let o := offer (.resume (host && s.link.parser == .idle)
          (if hosted then 0 else BitVec.ofNat 4 n.val) s.episode (s.timebase.setWidth 32))
        { s with power := .run, divider := 0, inPins := { s.inPins with ev := s.inPins.ev ^^^ changed } }
      ∃ t, exec (.wake host changed) s = .next t ∧ PinSet t ∧ ∃ u : State, Drains o.recorder.queue o u ∧
        t = { u with outPins := { u.outPins with alertLow := t.outPins.alertLow } }) ∧
    (linkUp s = true → s.power = .standby → hosted → NothingWaits s → HasRoom 8 s → s.capture.wf 65536 →
      s.units.recorder = .running →
      ∃ t, exec (.wake host changed) s = .next t ∧ WokenWith (resumeBytes true 0 s) changed s t) ∧
    (linkUp s = true → s.power = .standby → ¬hosted → input → NothingWaits s → HasRoom 8 s → s.capture.wf 65536 →
      s.units.recorder = .running →
      ∃ t, exec (.wake host changed) s = .next t ∧
        WokenWith (resumeBytes false (BitVec.ofNat 8 n.val) s) changed s t)

/-- R7, R20 and R168: the events of a power-on reset. The supply goes and comes back, the straps are sampled and INIT
begins; the end of the sweep enters OPEN with every quantity at its power-on reset value, or waits for RST#, whose
release samples the straps again. Through all of INIT SDO is 00h while CS# is low in SPI, and nothing is driven
otherwise. Which values stand where "the part holds nothing" is the model's choice (log entry 8). -/
def Obligations.PowerOnResetEvents : Prop :=
  ∀ (p : PinLevels) (ev : Half) (s : State),
    let shown : InputPins :=
      { s.inPins with ifsel := p.ifsel, adr := p.adr, prm := p.prm, csLow := p.csLow, rstLow := p.rstLow }
    let driven (i2c : Bool) : Option Byte := if i2c = false ∧ p.csLow = true then some 0 else none
    let opened (straps : Straps) : State := { State.reset with
      pending := s.pending
      inPins := shown
      straps := straps
      permit := p.prm
      link := { State.reset.link with
        parser := if straps.i2c = false ∧ p.csLow = true then .ignore else .idle
        out := driven straps.i2c } }
    exec .lossOfSupply s = .next { State.reset with
      pending := s.pending, inPins := s.inPins, life := .unpowered, sweep := 0
      capture := s.capture, directory := s.directory } ∧
    exec (.powerOnReset p ev) s = .next { State.reset with
      pending := s.pending
      inPins := { shown with ev := ev }
      straps := { i2c := p.ifsel, adrHigh := p.adr }
      life := .init
      sweep := 0
      capture := s.capture
      directory := s.directory
      link := { State.reset.link with out := driven p.ifsel } } ∧
    (s.life = .init → s.sweep < 65792 → p.rstLow = false →
      exec (.sweepComplete p) s = .next (opened s.straps)) ∧
    (s.life = .init → s.sweep < 65792 → p.rstLow = true →
      exec (.sweepComplete p) s = .next { s with
        inPins := shown, capture := [], directory := [], sweep := 65792
        link := { s.link with out := driven s.straps.i2c } }) ∧
    (s.life = .init → 65792 ≤ s.sweep →
      exec (.releaseOfRstInInit p) s = .next (opened { i2c := p.ifsel, adrHigh := p.adr })) ∧
    (s.life = .init → s.sweep < 65792 → exec (.releaseOfRstInInit p) s = .next { s with
      inPins := shown, link := { s.link with out := driven s.straps.i2c } })

/-- R20, R38, R169, R172 and R173: a falling RST# stops the part, releases ALERT# and HRST#, takes RDY low, discards
the parser's state and ends a hold at once without end processing, the deferred sampling point dropped; its release samples the straps and gives every quantity its pin-reset value, capture memory, the
directory and the leaf sequence kept. -/
def Obligations.PinResetEvents : Prop :=
  ∀ (p : PinLevels) (s : State),
    (linkUp s = true → exec .pinResetAssert s = .next { s with
      life := .heldInReset
      hold := { active := false, remaining := 0, ticks := 0, alertLow := false }
      recorder := { s.recorder with deferred := false, missed := 0 }
      inPins := { s.inPins with rstLow := true }
      outPins := { rdy := false, alertLow := false, hrstLow := false }
      link := { s.link with
        parser := .idle, transfer := .none, ack := false
        out := if s.straps.i2c = false ∧ s.inPins.csLow = true then some 0 else none } }) ∧
    (s.life = .init → exec .pinResetAssert s = .next { s with inPins := { s.inPins with rstLow := true } }) ∧
    (s.life = .heldInReset → exec (.pinResetRelease p) s = .next { State.reset with
      pending := s.pending
      inPins := { s.inPins with ifsel := p.ifsel, adr := p.adr, prm := p.prm, csLow := p.csLow, rstLow := p.rstLow }
      straps := { i2c := p.ifsel, adrHigh := p.adr }
      link := { State.reset.link with
        parser := if p.ifsel = false ∧ p.csLow = true then .ignore else .idle
        out := if p.ifsel = false ∧ p.csLow = true then some 0 else none }
      resetCause := .pin
      resetCount := if s.resetCount = 255 then 255 else s.resetCount + 1
      permit := p.prm
      recorder := { State.reset.recorder with leafSeq := s.recorder.leafSeq }
      capture := s.capture
      directory := s.directory })

/-! ## The supervisor's commands -/

/-- R156: WDSET. -/
def Obligations.WdsetSetsTheTiming : Prop :=
  ∀ (e w flags : Byte) (s : State),
    linkUp s = true →
    let d := s.supervisor
    let r : Result :=
      if s.locked then .locked else if s.life = .committed then .committed
      else if e.toNat < 10 ∨ 24 < e.toNat ∨ w = 0 ∨ flags.extractLsb' 1 7 ≠ 0 then .operand
      else if d.phase = .pulsing then .state else .done
    commandBytes (.wdset e w flags) = some [0x70, e, w, flags] ∧ commandLength 0x70 = some 4 ∧
    Answers (.wdset e w flags) r s (if r ≠ .done then s else { s with supervisor := { d with
      e := e.toNat, w := w, warn := flags.getLsbD 0
      count := if d.state = .off then d.count else 0
      phase := if d.state = .off then d.phase else .quiet } })

/-- R157: WDKICK. -/
def Obligations.WdkickKicks : Prop :=
  ∀ (g : Byte) (s : State),
    linkUp s = true →
    let d := s.supervisor
    let r : Result :=
      if s.locked then .locked else if g ≠ 0x8E then .guard else if s.hold.active then .held
      else if d.state = .off ∨ d.phase = .pulsing then .state else .done
    commandBytes (.wdkick g) = some [0x71, g] ∧ commandLength 0x71 = some 2 ∧
    (r ≠ .done → Answers (.wdkick g) r s s) ∧
    (r = .done → ∃ t, exec (.wdkick g) s = .next t ∧
      CompletesWith (fun k => k == 38) .done s
        { s with supervisor := { d with count := 0, phase := .quiet, state := .watch } } t)

/-! ## What every step keeps -/

/-- R92, R102, R89, R132 to R134: every step keeps the three stores in canonical form and the window in its range. -/
def Obligations.StepKeepsStoresAndWindow : Prop :=
  ∀ s t : State, StoresOk s → WindowOk s → step s = .next t → StoresOk t ∧ WindowOk t

/-- R93, R101, R103, R110 to R116, R123 to R126, R168: every step keeps what the reference promises of the cursor, the
leaf being written, the queue, the loss tally, the sampling and the configuration, and a Locked recorder with an unplaced
cursor in INIT and without supply. -/
def Obligations.StepKeepsRecorder : Prop :=
  ∀ s t : State, Inv s → step s = .next t →
    CursorOk t ∧ RunOk t ∧ LeafOk t ∧ QueueOk t ∧ LossOk t ∧ SamplingOk t ∧ ConfigOk t ∧ QuietBeforeOpen t

/-- R68, R144, R150 to R152: every step keeps the counters of idle banks 0, the pending set within the nine causes, the
fault detail in agreement with CHAIN_FAULT, and the causes of an idle recorder and of idle banks removed. -/
def Obligations.StepKeepsBanksAndCauses : Prop :=
  ∀ s t : State, Inv s → step s = .next t → IdleBanksZero t ∧ CausesOk t ∧ FaultDetailOk t ∧ AutoClearOk t

/-- Section 2.6, R27, R155, R161, R163, R164: every step keeps the hold, the supervisor, RDY, HRST# and STANDBY as the
reference promises them. -/
def Obligations.StepKeepsHoldSupervisorAndPins : Prop :=
  ∀ s t : State, Inv s → step s = .next t → HoldOk t ∧ SupervisorOk t ∧ PinsOk t ∧ StandbyOk t

/-- R110, R147 and R148: at every event boundary the record queue is empty and ALERT# shows what the pending set and
the mask say, or its held level. Every row that is an event of R42, and a period on an empty queue, keeps both. -/
def Obligations.EventBoundary : Prop :=
  ∀ s t : State,
    (∀ c rest, s.pending = c :: rest → isEvent c = true) →
    QueueEmpty s → AlertPinOk s → step s = .next t → QueueEmpty t ∧ AlertPinOk t

/-- R46, R47, R61, R86, R90, R92 and R102: the timebase changes at ticks alone, the masks by GRANT alone, the freeze image
by BANKSNAP alone, the prescaler by TBSET alone, the directory never, resets and the arrival of a byte apart (a byte may
complete a command, R11, or be a window byte). -/
def Obligations.OnlyNamedRowsChange : Prop :=
  ∀ (c : Instr) (s t : State),
    exec c s = .next t → isReset c = false → isIncoming c = false →
    ((∀ p v, c ≠ .tick p v) → t.timebase = s.timebase) ∧
    ((∀ g v x, c ≠ .grant g v x) → t.grantMask = s.grantMask ∧ t.guardMask = s.guardMask) ∧
    ((∀ m, c ≠ .banksnap m) → t.freeze = s.freeze) ∧
    ((∀ p, c ≠ .tbset p) → t.prescaler = s.prescaler) ∧
    ((∀ e, c ≠ .wrapcfg e) → t.counters.wrapAlert = s.counters.wrapAlert) ∧
    ((∀ m, c ≠ .alertmask m) → t.alerts.mask = s.alerts.mask) ∧
    t.directory = s.directory ∧ t.straps = s.straps ∧ t.resetCause = s.resetCause ∧ t.resetCount = s.resetCount
end

