-- ==== Sys2Proof/Laws/State.lean ====
section
/-! SUPPORT. What each plain update of the state does to each field, true by unfolding it: a proof about a composite of
these operations needs no record update unfolded. -/

namespace Sys2Proof.Machine

/-! raise -/

@[simp] theorem raise_pending (c : Cause) (s : State) : (raise c s).pending = s.pending := rfl
@[simp] theorem raise_inPins (c : Cause) (s : State) : (raise c s).inPins = s.inPins := rfl
@[simp] theorem raise_outPins (c : Cause) (s : State) : (raise c s).outPins = s.outPins := rfl
@[simp] theorem raise_straps (c : Cause) (s : State) : (raise c s).straps = s.straps := rfl
@[simp] theorem raise_link (c : Cause) (s : State) : (raise c s).link = s.link := rfl
@[simp] theorem raise_life (c : Cause) (s : State) : (raise c s).life = s.life := rfl
@[simp] theorem raise_power (c : Cause) (s : State) : (raise c s).power = s.power := rfl
@[simp] theorem raise_episode (c : Cause) (s : State) : (raise c s).episode = s.episode := rfl
@[simp] theorem raise_resetCause (c : Cause) (s : State) : (raise c s).resetCause = s.resetCause := rfl
@[simp] theorem raise_resetCount (c : Cause) (s : State) : (raise c s).resetCount = s.resetCount := rfl
@[simp] theorem raise_sweep (c : Cause) (s : State) : (raise c s).sweep = s.sweep := rfl
@[simp] theorem raise_lastResult (c : Cause) (s : State) : (raise c s).lastResult = s.lastResult := rfl
@[simp] theorem raise_locked (c : Cause) (s : State) : (raise c s).locked = s.locked := rfl
@[simp] theorem raise_hold (c : Cause) (s : State) : (raise c s).hold = s.hold := rfl
@[simp] theorem raise_prescaler (c : Cause) (s : State) : (raise c s).prescaler = s.prescaler := rfl
@[simp] theorem raise_divider (c : Cause) (s : State) : (raise c s).divider = s.divider := rfl
@[simp] theorem raise_timebase (c : Cause) (s : State) : (raise c s).timebase = s.timebase := rfl
@[simp] theorem raise_permit (c : Cause) (s : State) : (raise c s).permit = s.permit := rfl
@[simp] theorem raise_permitStab (c : Cause) (s : State) : (raise c s).permitStab = s.permitStab := rfl
@[simp] theorem raise_inputs (c : Cause) (s : State) : (raise c s).inputs = s.inputs := rfl
@[simp] theorem raise_grantMask (c : Cause) (s : State) : (raise c s).grantMask = s.grantMask := rfl
@[simp] theorem raise_guardMask (c : Cause) (s : State) : (raise c s).guardMask = s.guardMask := rfl
@[simp] theorem raise_units (c : Cause) (s : State) : (raise c s).units = s.units := rfl
@[simp] theorem raise_counters (c : Cause) (s : State) : (raise c s).counters = s.counters := rfl
@[simp] theorem raise_freeze (c : Cause) (s : State) : (raise c s).freeze = s.freeze := rfl
@[simp] theorem raise_recorder (c : Cause) (s : State) : (raise c s).recorder = s.recorder := rfl
@[simp] theorem raise_capture (c : Cause) (s : State) : (raise c s).capture = s.capture := rfl
@[simp] theorem raise_directory (c : Cause) (s : State) : (raise c s).directory = s.directory := rfl
@[simp] theorem raise_window (c : Cause) (s : State) : (raise c s).window = s.window := rfl
@[simp] theorem raise_alerts (c : Cause) (s : State) :
    (raise c s).alerts = { s.alerts with raised := s.alerts.raised ||| c.bit } := rfl
@[simp] theorem raise_supervisor (c : Cause) (s : State) : (raise c s).supervisor = s.supervisor := rfl

/-! removeCauses -/

@[simp] theorem removeCauses_pending (mask : Half) (s : State) : (removeCauses mask s).pending = s.pending := rfl
@[simp] theorem removeCauses_inPins (mask : Half) (s : State) : (removeCauses mask s).inPins = s.inPins := rfl
@[simp] theorem removeCauses_outPins (mask : Half) (s : State) : (removeCauses mask s).outPins = s.outPins := rfl
@[simp] theorem removeCauses_straps (mask : Half) (s : State) : (removeCauses mask s).straps = s.straps := rfl
@[simp] theorem removeCauses_link (mask : Half) (s : State) : (removeCauses mask s).link = s.link := rfl
@[simp] theorem removeCauses_life (mask : Half) (s : State) : (removeCauses mask s).life = s.life := rfl
@[simp] theorem removeCauses_power (mask : Half) (s : State) : (removeCauses mask s).power = s.power := rfl
@[simp] theorem removeCauses_episode (mask : Half) (s : State) : (removeCauses mask s).episode = s.episode := rfl
@[simp] theorem removeCauses_resetCause (mask : Half) (s : State) :
    (removeCauses mask s).resetCause = s.resetCause := rfl
@[simp] theorem removeCauses_resetCount (mask : Half) (s : State) :
    (removeCauses mask s).resetCount = s.resetCount := rfl
@[simp] theorem removeCauses_sweep (mask : Half) (s : State) : (removeCauses mask s).sweep = s.sweep := rfl
@[simp] theorem removeCauses_lastResult (mask : Half) (s : State) :
    (removeCauses mask s).lastResult = s.lastResult := rfl
@[simp] theorem removeCauses_locked (mask : Half) (s : State) : (removeCauses mask s).locked = s.locked := rfl
@[simp] theorem removeCauses_hold (mask : Half) (s : State) : (removeCauses mask s).hold = s.hold := rfl
@[simp] theorem removeCauses_prescaler (mask : Half) (s : State) :
    (removeCauses mask s).prescaler = s.prescaler := rfl
@[simp] theorem removeCauses_divider (mask : Half) (s : State) : (removeCauses mask s).divider = s.divider := rfl
@[simp] theorem removeCauses_timebase (mask : Half) (s : State) : (removeCauses mask s).timebase = s.timebase := rfl
@[simp] theorem removeCauses_permit (mask : Half) (s : State) : (removeCauses mask s).permit = s.permit := rfl
@[simp] theorem removeCauses_permitStab (mask : Half) (s : State) :
    (removeCauses mask s).permitStab = s.permitStab := rfl
@[simp] theorem removeCauses_inputs (mask : Half) (s : State) : (removeCauses mask s).inputs = s.inputs := rfl
@[simp] theorem removeCauses_grantMask (mask : Half) (s : State) :
    (removeCauses mask s).grantMask = s.grantMask := rfl
@[simp] theorem removeCauses_guardMask (mask : Half) (s : State) :
    (removeCauses mask s).guardMask = s.guardMask := rfl
@[simp] theorem removeCauses_units (mask : Half) (s : State) : (removeCauses mask s).units = s.units := rfl
@[simp] theorem removeCauses_counters (mask : Half) (s : State) : (removeCauses mask s).counters = s.counters := rfl
@[simp] theorem removeCauses_freeze (mask : Half) (s : State) : (removeCauses mask s).freeze = s.freeze := rfl
@[simp] theorem removeCauses_recorder (mask : Half) (s : State) : (removeCauses mask s).recorder = s.recorder := rfl
@[simp] theorem removeCauses_capture (mask : Half) (s : State) : (removeCauses mask s).capture = s.capture := rfl
@[simp] theorem removeCauses_directory (mask : Half) (s : State) :
    (removeCauses mask s).directory = s.directory := rfl
@[simp] theorem removeCauses_window (mask : Half) (s : State) : (removeCauses mask s).window = s.window := rfl
@[simp] theorem removeCauses_alerts (mask : Half) (s : State) :
    (removeCauses mask s).alerts = { s.alerts with raised := s.alerts.raised &&& ~~~mask } := rfl
@[simp] theorem removeCauses_supervisor (mask : Half) (s : State) :
    (removeCauses mask s).supervisor = s.supervisor := rfl

/-! evalAlert -/

@[simp] theorem evalAlert_pending (s : State) : (evalAlert s).pending = s.pending := rfl
@[simp] theorem evalAlert_inPins (s : State) : (evalAlert s).inPins = s.inPins := rfl
@[simp] theorem evalAlert_outPins (s : State) :
    (evalAlert s).outPins = { s.outPins with alertLow := if s.hold.active then s.hold.alertLow else alertWanted s } := rfl
@[simp] theorem evalAlert_straps (s : State) : (evalAlert s).straps = s.straps := rfl
@[simp] theorem evalAlert_link (s : State) : (evalAlert s).link = s.link := rfl
@[simp] theorem evalAlert_life (s : State) : (evalAlert s).life = s.life := rfl
@[simp] theorem evalAlert_power (s : State) : (evalAlert s).power = s.power := rfl
@[simp] theorem evalAlert_episode (s : State) : (evalAlert s).episode = s.episode := rfl
@[simp] theorem evalAlert_resetCause (s : State) : (evalAlert s).resetCause = s.resetCause := rfl
@[simp] theorem evalAlert_resetCount (s : State) : (evalAlert s).resetCount = s.resetCount := rfl
@[simp] theorem evalAlert_sweep (s : State) : (evalAlert s).sweep = s.sweep := rfl
@[simp] theorem evalAlert_lastResult (s : State) : (evalAlert s).lastResult = s.lastResult := rfl
@[simp] theorem evalAlert_locked (s : State) : (evalAlert s).locked = s.locked := rfl
@[simp] theorem evalAlert_hold (s : State) : (evalAlert s).hold = s.hold := rfl
@[simp] theorem evalAlert_prescaler (s : State) : (evalAlert s).prescaler = s.prescaler := rfl
@[simp] theorem evalAlert_divider (s : State) : (evalAlert s).divider = s.divider := rfl
@[simp] theorem evalAlert_timebase (s : State) : (evalAlert s).timebase = s.timebase := rfl
@[simp] theorem evalAlert_permit (s : State) : (evalAlert s).permit = s.permit := rfl
@[simp] theorem evalAlert_permitStab (s : State) : (evalAlert s).permitStab = s.permitStab := rfl
@[simp] theorem evalAlert_inputs (s : State) : (evalAlert s).inputs = s.inputs := rfl
@[simp] theorem evalAlert_grantMask (s : State) : (evalAlert s).grantMask = s.grantMask := rfl
@[simp] theorem evalAlert_guardMask (s : State) : (evalAlert s).guardMask = s.guardMask := rfl
@[simp] theorem evalAlert_units (s : State) : (evalAlert s).units = s.units := rfl
@[simp] theorem evalAlert_counters (s : State) : (evalAlert s).counters = s.counters := rfl
@[simp] theorem evalAlert_freeze (s : State) : (evalAlert s).freeze = s.freeze := rfl
@[simp] theorem evalAlert_recorder (s : State) : (evalAlert s).recorder = s.recorder := rfl
@[simp] theorem evalAlert_capture (s : State) : (evalAlert s).capture = s.capture := rfl
@[simp] theorem evalAlert_directory (s : State) : (evalAlert s).directory = s.directory := rfl
@[simp] theorem evalAlert_window (s : State) : (evalAlert s).window = s.window := rfl
@[simp] theorem evalAlert_alerts (s : State) : (evalAlert s).alerts = s.alerts := rfl
@[simp] theorem evalAlert_supervisor (s : State) : (evalAlert s).supervisor = s.supervisor := rfl

/-! enqueue -/

@[simp] theorem enqueue_pending (r : Rec) (s : State) : (enqueue r s).pending = s.pending := rfl
@[simp] theorem enqueue_inPins (r : Rec) (s : State) : (enqueue r s).inPins = s.inPins := rfl
@[simp] theorem enqueue_outPins (r : Rec) (s : State) : (enqueue r s).outPins = s.outPins := rfl
@[simp] theorem enqueue_straps (r : Rec) (s : State) : (enqueue r s).straps = s.straps := rfl
@[simp] theorem enqueue_link (r : Rec) (s : State) : (enqueue r s).link = s.link := rfl
@[simp] theorem enqueue_life (r : Rec) (s : State) : (enqueue r s).life = s.life := rfl
@[simp] theorem enqueue_power (r : Rec) (s : State) : (enqueue r s).power = s.power := rfl
@[simp] theorem enqueue_episode (r : Rec) (s : State) : (enqueue r s).episode = s.episode := rfl
@[simp] theorem enqueue_resetCause (r : Rec) (s : State) : (enqueue r s).resetCause = s.resetCause := rfl
@[simp] theorem enqueue_resetCount (r : Rec) (s : State) : (enqueue r s).resetCount = s.resetCount := rfl
@[simp] theorem enqueue_sweep (r : Rec) (s : State) : (enqueue r s).sweep = s.sweep := rfl
@[simp] theorem enqueue_lastResult (r : Rec) (s : State) : (enqueue r s).lastResult = s.lastResult := rfl
@[simp] theorem enqueue_locked (r : Rec) (s : State) : (enqueue r s).locked = s.locked := rfl
@[simp] theorem enqueue_hold (r : Rec) (s : State) : (enqueue r s).hold = s.hold := rfl
@[simp] theorem enqueue_prescaler (r : Rec) (s : State) : (enqueue r s).prescaler = s.prescaler := rfl
@[simp] theorem enqueue_divider (r : Rec) (s : State) : (enqueue r s).divider = s.divider := rfl
@[simp] theorem enqueue_timebase (r : Rec) (s : State) : (enqueue r s).timebase = s.timebase := rfl
@[simp] theorem enqueue_permit (r : Rec) (s : State) : (enqueue r s).permit = s.permit := rfl
@[simp] theorem enqueue_permitStab (r : Rec) (s : State) : (enqueue r s).permitStab = s.permitStab := rfl
@[simp] theorem enqueue_inputs (r : Rec) (s : State) : (enqueue r s).inputs = s.inputs := rfl
@[simp] theorem enqueue_grantMask (r : Rec) (s : State) : (enqueue r s).grantMask = s.grantMask := rfl
@[simp] theorem enqueue_guardMask (r : Rec) (s : State) : (enqueue r s).guardMask = s.guardMask := rfl
@[simp] theorem enqueue_units (r : Rec) (s : State) : (enqueue r s).units = s.units := rfl
@[simp] theorem enqueue_counters (r : Rec) (s : State) : (enqueue r s).counters = s.counters := rfl
@[simp] theorem enqueue_freeze (r : Rec) (s : State) : (enqueue r s).freeze = s.freeze := rfl
@[simp] theorem enqueue_recorder (r : Rec) (s : State) :
    (enqueue r s).recorder = { s.recorder with queue := s.recorder.queue ++ [r] } := rfl
@[simp] theorem enqueue_capture (r : Rec) (s : State) : (enqueue r s).capture = s.capture := rfl
@[simp] theorem enqueue_directory (r : Rec) (s : State) : (enqueue r s).directory = s.directory := rfl
@[simp] theorem enqueue_window (r : Rec) (s : State) : (enqueue r s).window = s.window := rfl
@[simp] theorem enqueue_alerts (r : Rec) (s : State) : (enqueue r s).alerts = s.alerts := rfl
@[simp] theorem enqueue_supervisor (r : Rec) (s : State) : (enqueue r s).supervisor = s.supervisor := rfl

/-! clearLoss -/

@[simp] theorem clearLoss_pending (s : State) : (clearLoss s).pending = s.pending := rfl
@[simp] theorem clearLoss_inPins (s : State) : (clearLoss s).inPins = s.inPins := rfl
@[simp] theorem clearLoss_outPins (s : State) : (clearLoss s).outPins = s.outPins := rfl
@[simp] theorem clearLoss_straps (s : State) : (clearLoss s).straps = s.straps := rfl
@[simp] theorem clearLoss_link (s : State) : (clearLoss s).link = s.link := rfl
@[simp] theorem clearLoss_life (s : State) : (clearLoss s).life = s.life := rfl
@[simp] theorem clearLoss_power (s : State) : (clearLoss s).power = s.power := rfl
@[simp] theorem clearLoss_episode (s : State) : (clearLoss s).episode = s.episode := rfl
@[simp] theorem clearLoss_resetCause (s : State) : (clearLoss s).resetCause = s.resetCause := rfl
@[simp] theorem clearLoss_resetCount (s : State) : (clearLoss s).resetCount = s.resetCount := rfl
@[simp] theorem clearLoss_sweep (s : State) : (clearLoss s).sweep = s.sweep := rfl
@[simp] theorem clearLoss_lastResult (s : State) : (clearLoss s).lastResult = s.lastResult := rfl
@[simp] theorem clearLoss_locked (s : State) : (clearLoss s).locked = s.locked := rfl
@[simp] theorem clearLoss_hold (s : State) : (clearLoss s).hold = s.hold := rfl
@[simp] theorem clearLoss_prescaler (s : State) : (clearLoss s).prescaler = s.prescaler := rfl
@[simp] theorem clearLoss_divider (s : State) : (clearLoss s).divider = s.divider := rfl
@[simp] theorem clearLoss_timebase (s : State) : (clearLoss s).timebase = s.timebase := rfl
@[simp] theorem clearLoss_permit (s : State) : (clearLoss s).permit = s.permit := rfl
@[simp] theorem clearLoss_permitStab (s : State) : (clearLoss s).permitStab = s.permitStab := rfl
@[simp] theorem clearLoss_inputs (s : State) : (clearLoss s).inputs = s.inputs := rfl
@[simp] theorem clearLoss_grantMask (s : State) : (clearLoss s).grantMask = s.grantMask := rfl
@[simp] theorem clearLoss_guardMask (s : State) : (clearLoss s).guardMask = s.guardMask := rfl
@[simp] theorem clearLoss_units (s : State) : (clearLoss s).units = s.units := rfl
@[simp] theorem clearLoss_counters (s : State) : (clearLoss s).counters = s.counters := rfl
@[simp] theorem clearLoss_freeze (s : State) : (clearLoss s).freeze = s.freeze := rfl
@[simp] theorem clearLoss_recorder (s : State) :
    (clearLoss s).recorder = { s.recorder with lossCount := 0, lossTime := none } := rfl
@[simp] theorem clearLoss_capture (s : State) : (clearLoss s).capture = s.capture := rfl
@[simp] theorem clearLoss_directory (s : State) : (clearLoss s).directory = s.directory := rfl
@[simp] theorem clearLoss_window (s : State) : (clearLoss s).window = s.window := rfl
@[simp] theorem clearLoss_alerts (s : State) : (clearLoss s).alerts = s.alerts := rfl
@[simp] theorem clearLoss_supervisor (s : State) : (clearLoss s).supervisor = s.supervisor := rfl

/-! writeLeaf -/

@[simp] theorem writeLeaf_pending (leaf : Byte) (offset : Nat) (bytes : List Byte) (s : State) :
    (writeLeaf leaf offset bytes s).pending = s.pending := rfl
@[simp] theorem writeLeaf_inPins (leaf : Byte) (offset : Nat) (bytes : List Byte) (s : State) :
    (writeLeaf leaf offset bytes s).inPins = s.inPins := rfl
@[simp] theorem writeLeaf_outPins (leaf : Byte) (offset : Nat) (bytes : List Byte) (s : State) :
    (writeLeaf leaf offset bytes s).outPins = s.outPins := rfl
@[simp] theorem writeLeaf_straps (leaf : Byte) (offset : Nat) (bytes : List Byte) (s : State) :
    (writeLeaf leaf offset bytes s).straps = s.straps := rfl
@[simp] theorem writeLeaf_link (leaf : Byte) (offset : Nat) (bytes : List Byte) (s : State) :
    (writeLeaf leaf offset bytes s).link = s.link := rfl
@[simp] theorem writeLeaf_life (leaf : Byte) (offset : Nat) (bytes : List Byte) (s : State) :
    (writeLeaf leaf offset bytes s).life = s.life := rfl
@[simp] theorem writeLeaf_power (leaf : Byte) (offset : Nat) (bytes : List Byte) (s : State) :
    (writeLeaf leaf offset bytes s).power = s.power := rfl
@[simp] theorem writeLeaf_episode (leaf : Byte) (offset : Nat) (bytes : List Byte) (s : State) :
    (writeLeaf leaf offset bytes s).episode = s.episode := rfl
@[simp] theorem writeLeaf_resetCause (leaf : Byte) (offset : Nat) (bytes : List Byte) (s : State) :
    (writeLeaf leaf offset bytes s).resetCause = s.resetCause := rfl
@[simp] theorem writeLeaf_resetCount (leaf : Byte) (offset : Nat) (bytes : List Byte) (s : State) :
    (writeLeaf leaf offset bytes s).resetCount = s.resetCount := rfl
@[simp] theorem writeLeaf_sweep (leaf : Byte) (offset : Nat) (bytes : List Byte) (s : State) :
    (writeLeaf leaf offset bytes s).sweep = s.sweep := rfl
@[simp] theorem writeLeaf_lastResult (leaf : Byte) (offset : Nat) (bytes : List Byte) (s : State) :
    (writeLeaf leaf offset bytes s).lastResult = s.lastResult := rfl
@[simp] theorem writeLeaf_locked (leaf : Byte) (offset : Nat) (bytes : List Byte) (s : State) :
    (writeLeaf leaf offset bytes s).locked = s.locked := rfl
@[simp] theorem writeLeaf_hold (leaf : Byte) (offset : Nat) (bytes : List Byte) (s : State) :
    (writeLeaf leaf offset bytes s).hold = s.hold := rfl
@[simp] theorem writeLeaf_prescaler (leaf : Byte) (offset : Nat) (bytes : List Byte) (s : State) :
    (writeLeaf leaf offset bytes s).prescaler = s.prescaler := rfl
@[simp] theorem writeLeaf_divider (leaf : Byte) (offset : Nat) (bytes : List Byte) (s : State) :
    (writeLeaf leaf offset bytes s).divider = s.divider := rfl
@[simp] theorem writeLeaf_timebase (leaf : Byte) (offset : Nat) (bytes : List Byte) (s : State) :
    (writeLeaf leaf offset bytes s).timebase = s.timebase := rfl
@[simp] theorem writeLeaf_permit (leaf : Byte) (offset : Nat) (bytes : List Byte) (s : State) :
    (writeLeaf leaf offset bytes s).permit = s.permit := rfl
@[simp] theorem writeLeaf_permitStab (leaf : Byte) (offset : Nat) (bytes : List Byte) (s : State) :
    (writeLeaf leaf offset bytes s).permitStab = s.permitStab := rfl
@[simp] theorem writeLeaf_inputs (leaf : Byte) (offset : Nat) (bytes : List Byte) (s : State) :
    (writeLeaf leaf offset bytes s).inputs = s.inputs := rfl
@[simp] theorem writeLeaf_grantMask (leaf : Byte) (offset : Nat) (bytes : List Byte) (s : State) :
    (writeLeaf leaf offset bytes s).grantMask = s.grantMask := rfl
@[simp] theorem writeLeaf_guardMask (leaf : Byte) (offset : Nat) (bytes : List Byte) (s : State) :
    (writeLeaf leaf offset bytes s).guardMask = s.guardMask := rfl
@[simp] theorem writeLeaf_units (leaf : Byte) (offset : Nat) (bytes : List Byte) (s : State) :
    (writeLeaf leaf offset bytes s).units = s.units := rfl
@[simp] theorem writeLeaf_counters (leaf : Byte) (offset : Nat) (bytes : List Byte) (s : State) :
    (writeLeaf leaf offset bytes s).counters = s.counters := rfl
@[simp] theorem writeLeaf_freeze (leaf : Byte) (offset : Nat) (bytes : List Byte) (s : State) :
    (writeLeaf leaf offset bytes s).freeze = s.freeze := rfl
@[simp] theorem writeLeaf_recorder (leaf : Byte) (offset : Nat) (bytes : List Byte) (s : State) :
    (writeLeaf leaf offset bytes s).recorder = s.recorder := rfl
@[simp] theorem writeLeaf_capture (leaf : Byte) (offset : Nat) (bytes : List Byte) (s : State) :
    (writeLeaf leaf offset bytes s).capture = s.capture.writeAll (Config.leafBytes * leaf.toNat + offset) bytes := rfl
@[simp] theorem writeLeaf_directory (leaf : Byte) (offset : Nat) (bytes : List Byte) (s : State) :
    (writeLeaf leaf offset bytes s).directory = s.directory := rfl
@[simp] theorem writeLeaf_window (leaf : Byte) (offset : Nat) (bytes : List Byte) (s : State) :
    (writeLeaf leaf offset bytes s).window = s.window := rfl
@[simp] theorem writeLeaf_alerts (leaf : Byte) (offset : Nat) (bytes : List Byte) (s : State) :
    (writeLeaf leaf offset bytes s).alerts = s.alerts := rfl
@[simp] theorem writeLeaf_supervisor (leaf : Byte) (offset : Nat) (bytes : List Byte) (s : State) :
    (writeLeaf leaf offset bytes s).supervisor = s.supervisor := rfl

/-! clearBank -/

@[simp] theorem clearBank_pending (b : Bank) (s : State) : (clearBank b s).pending = s.pending := by
  unfold clearBank; rfl
@[simp] theorem clearBank_inPins (b : Bank) (s : State) : (clearBank b s).inPins = s.inPins := by
  unfold clearBank; rfl
@[simp] theorem clearBank_outPins (b : Bank) (s : State) : (clearBank b s).outPins = s.outPins := by
  unfold clearBank; rfl
@[simp] theorem clearBank_straps (b : Bank) (s : State) : (clearBank b s).straps = s.straps := by
  unfold clearBank; rfl
@[simp] theorem clearBank_link (b : Bank) (s : State) : (clearBank b s).link = s.link := by
  unfold clearBank; rfl
@[simp] theorem clearBank_life (b : Bank) (s : State) : (clearBank b s).life = s.life := by
  unfold clearBank; rfl
@[simp] theorem clearBank_power (b : Bank) (s : State) : (clearBank b s).power = s.power := by
  unfold clearBank; rfl
@[simp] theorem clearBank_episode (b : Bank) (s : State) : (clearBank b s).episode = s.episode := by
  unfold clearBank; rfl
@[simp] theorem clearBank_resetCause (b : Bank) (s : State) : (clearBank b s).resetCause = s.resetCause := by
  unfold clearBank; rfl
@[simp] theorem clearBank_resetCount (b : Bank) (s : State) : (clearBank b s).resetCount = s.resetCount := by
  unfold clearBank; rfl
@[simp] theorem clearBank_sweep (b : Bank) (s : State) : (clearBank b s).sweep = s.sweep := by
  unfold clearBank; rfl
@[simp] theorem clearBank_lastResult (b : Bank) (s : State) : (clearBank b s).lastResult = s.lastResult := by
  unfold clearBank; rfl
@[simp] theorem clearBank_locked (b : Bank) (s : State) : (clearBank b s).locked = s.locked := by
  unfold clearBank; rfl
@[simp] theorem clearBank_hold (b : Bank) (s : State) : (clearBank b s).hold = s.hold := by
  unfold clearBank; rfl
@[simp] theorem clearBank_prescaler (b : Bank) (s : State) : (clearBank b s).prescaler = s.prescaler := by
  unfold clearBank; rfl
@[simp] theorem clearBank_divider (b : Bank) (s : State) : (clearBank b s).divider = s.divider := by
  unfold clearBank; rfl
@[simp] theorem clearBank_timebase (b : Bank) (s : State) : (clearBank b s).timebase = s.timebase := by
  unfold clearBank; rfl
@[simp] theorem clearBank_permit (b : Bank) (s : State) : (clearBank b s).permit = s.permit := by
  unfold clearBank; rfl
@[simp] theorem clearBank_permitStab (b : Bank) (s : State) : (clearBank b s).permitStab = s.permitStab := by
  unfold clearBank; rfl
@[simp] theorem clearBank_inputs (b : Bank) (s : State) : (clearBank b s).inputs = s.inputs := by
  unfold clearBank; rfl
@[simp] theorem clearBank_grantMask (b : Bank) (s : State) : (clearBank b s).grantMask = s.grantMask := by
  unfold clearBank; rfl
@[simp] theorem clearBank_guardMask (b : Bank) (s : State) : (clearBank b s).guardMask = s.guardMask := by
  unfold clearBank; rfl
@[simp] theorem clearBank_units (b : Bank) (s : State) : (clearBank b s).units = s.units := by
  unfold clearBank; rfl
@[simp] theorem clearBank_counters (b : Bank) (s : State) : (clearBank b s).counters = { s.counters with
      value := Vector.ofFn fun c => if bankOf c = b then 0 else s.counters.value[c]
      wrapped := Vector.ofFn fun c => s.counters.wrapped[c] && bankOf c != b } := by
  unfold clearBank; rfl
@[simp] theorem clearBank_freeze (b : Bank) (s : State) : (clearBank b s).freeze = s.freeze := by
  unfold clearBank; rfl
@[simp] theorem clearBank_recorder (b : Bank) (s : State) : (clearBank b s).recorder = s.recorder := by
  unfold clearBank; rfl
@[simp] theorem clearBank_capture (b : Bank) (s : State) : (clearBank b s).capture = s.capture := by
  unfold clearBank; rfl
@[simp] theorem clearBank_directory (b : Bank) (s : State) : (clearBank b s).directory = s.directory := by
  unfold clearBank; rfl
@[simp] theorem clearBank_window (b : Bank) (s : State) : (clearBank b s).window = s.window := by
  unfold clearBank; rfl
@[simp] theorem clearBank_alerts (b : Bank) (s : State) : (clearBank b s).alerts = s.alerts := by
  unfold clearBank; rfl
@[simp] theorem clearBank_supervisor (b : Bank) (s : State) : (clearBank b s).supervisor = s.supervisor := by
  unfold clearBank; rfl

/-! clearWraps -/

@[simp] theorem clearWraps_pending (b : Bank) (s : State) : (clearWraps b s).pending = s.pending := by
  unfold clearWraps; rfl
@[simp] theorem clearWraps_inPins (b : Bank) (s : State) : (clearWraps b s).inPins = s.inPins := by
  unfold clearWraps; rfl
@[simp] theorem clearWraps_outPins (b : Bank) (s : State) : (clearWraps b s).outPins = s.outPins := by
  unfold clearWraps; rfl
@[simp] theorem clearWraps_straps (b : Bank) (s : State) : (clearWraps b s).straps = s.straps := by
  unfold clearWraps; rfl
@[simp] theorem clearWraps_link (b : Bank) (s : State) : (clearWraps b s).link = s.link := by
  unfold clearWraps; rfl
@[simp] theorem clearWraps_life (b : Bank) (s : State) : (clearWraps b s).life = s.life := by
  unfold clearWraps; rfl
@[simp] theorem clearWraps_power (b : Bank) (s : State) : (clearWraps b s).power = s.power := by
  unfold clearWraps; rfl
@[simp] theorem clearWraps_episode (b : Bank) (s : State) : (clearWraps b s).episode = s.episode := by
  unfold clearWraps; rfl
@[simp] theorem clearWraps_resetCause (b : Bank) (s : State) : (clearWraps b s).resetCause = s.resetCause := by
  unfold clearWraps; rfl
@[simp] theorem clearWraps_resetCount (b : Bank) (s : State) : (clearWraps b s).resetCount = s.resetCount := by
  unfold clearWraps; rfl
@[simp] theorem clearWraps_sweep (b : Bank) (s : State) : (clearWraps b s).sweep = s.sweep := by
  unfold clearWraps; rfl
@[simp] theorem clearWraps_lastResult (b : Bank) (s : State) : (clearWraps b s).lastResult = s.lastResult := by
  unfold clearWraps; rfl
@[simp] theorem clearWraps_locked (b : Bank) (s : State) : (clearWraps b s).locked = s.locked := by
  unfold clearWraps; rfl
@[simp] theorem clearWraps_hold (b : Bank) (s : State) : (clearWraps b s).hold = s.hold := by
  unfold clearWraps; rfl
@[simp] theorem clearWraps_prescaler (b : Bank) (s : State) : (clearWraps b s).prescaler = s.prescaler := by
  unfold clearWraps; rfl
@[simp] theorem clearWraps_divider (b : Bank) (s : State) : (clearWraps b s).divider = s.divider := by
  unfold clearWraps; rfl
@[simp] theorem clearWraps_timebase (b : Bank) (s : State) : (clearWraps b s).timebase = s.timebase := by
  unfold clearWraps; rfl
@[simp] theorem clearWraps_permit (b : Bank) (s : State) : (clearWraps b s).permit = s.permit := by
  unfold clearWraps; rfl
@[simp] theorem clearWraps_permitStab (b : Bank) (s : State) : (clearWraps b s).permitStab = s.permitStab := by
  unfold clearWraps; rfl
@[simp] theorem clearWraps_inputs (b : Bank) (s : State) : (clearWraps b s).inputs = s.inputs := by
  unfold clearWraps; rfl
@[simp] theorem clearWraps_grantMask (b : Bank) (s : State) : (clearWraps b s).grantMask = s.grantMask := by
  unfold clearWraps; rfl
@[simp] theorem clearWraps_guardMask (b : Bank) (s : State) : (clearWraps b s).guardMask = s.guardMask := by
  unfold clearWraps; rfl
@[simp] theorem clearWraps_units (b : Bank) (s : State) : (clearWraps b s).units = s.units := by
  unfold clearWraps; rfl
@[simp] theorem clearWraps_counters (b : Bank) (s : State) :
    (clearWraps b s).counters = { s.counters with wrapped := Vector.ofFn fun c => s.counters.wrapped[c] && bankOf c != b } := by
  unfold clearWraps; rfl
@[simp] theorem clearWraps_freeze (b : Bank) (s : State) : (clearWraps b s).freeze = s.freeze := by
  unfold clearWraps; rfl
@[simp] theorem clearWraps_recorder (b : Bank) (s : State) : (clearWraps b s).recorder = s.recorder := by
  unfold clearWraps; rfl
@[simp] theorem clearWraps_capture (b : Bank) (s : State) : (clearWraps b s).capture = s.capture := by
  unfold clearWraps; rfl
@[simp] theorem clearWraps_directory (b : Bank) (s : State) : (clearWraps b s).directory = s.directory := by
  unfold clearWraps; rfl
@[simp] theorem clearWraps_window (b : Bank) (s : State) : (clearWraps b s).window = s.window := by
  unfold clearWraps; rfl
@[simp] theorem clearWraps_alerts (b : Bank) (s : State) : (clearWraps b s).alerts = s.alerts := by
  unfold clearWraps; rfl
@[simp] theorem clearWraps_supervisor (b : Bank) (s : State) : (clearWraps b s).supervisor = s.supervisor := by
  unfold clearWraps; rfl

/-! freezeBytes -/

@[simp] theorem freezeBytes_pending (a : Nat) (bytes : List Byte) (s : State) :
    (freezeBytes a bytes s).pending = s.pending := rfl
@[simp] theorem freezeBytes_inPins (a : Nat) (bytes : List Byte) (s : State) :
    (freezeBytes a bytes s).inPins = s.inPins := rfl
@[simp] theorem freezeBytes_outPins (a : Nat) (bytes : List Byte) (s : State) :
    (freezeBytes a bytes s).outPins = s.outPins := rfl
@[simp] theorem freezeBytes_straps (a : Nat) (bytes : List Byte) (s : State) :
    (freezeBytes a bytes s).straps = s.straps := rfl
@[simp] theorem freezeBytes_link (a : Nat) (bytes : List Byte) (s : State) :
    (freezeBytes a bytes s).link = s.link := rfl
@[simp] theorem freezeBytes_life (a : Nat) (bytes : List Byte) (s : State) :
    (freezeBytes a bytes s).life = s.life := rfl
@[simp] theorem freezeBytes_power (a : Nat) (bytes : List Byte) (s : State) :
    (freezeBytes a bytes s).power = s.power := rfl
@[simp] theorem freezeBytes_episode (a : Nat) (bytes : List Byte) (s : State) :
    (freezeBytes a bytes s).episode = s.episode := rfl
@[simp] theorem freezeBytes_resetCause (a : Nat) (bytes : List Byte) (s : State) :
    (freezeBytes a bytes s).resetCause = s.resetCause := rfl
@[simp] theorem freezeBytes_resetCount (a : Nat) (bytes : List Byte) (s : State) :
    (freezeBytes a bytes s).resetCount = s.resetCount := rfl
@[simp] theorem freezeBytes_sweep (a : Nat) (bytes : List Byte) (s : State) :
    (freezeBytes a bytes s).sweep = s.sweep := rfl
@[simp] theorem freezeBytes_lastResult (a : Nat) (bytes : List Byte) (s : State) :
    (freezeBytes a bytes s).lastResult = s.lastResult := rfl
@[simp] theorem freezeBytes_locked (a : Nat) (bytes : List Byte) (s : State) :
    (freezeBytes a bytes s).locked = s.locked := rfl
@[simp] theorem freezeBytes_hold (a : Nat) (bytes : List Byte) (s : State) :
    (freezeBytes a bytes s).hold = s.hold := rfl
@[simp] theorem freezeBytes_prescaler (a : Nat) (bytes : List Byte) (s : State) :
    (freezeBytes a bytes s).prescaler = s.prescaler := rfl
@[simp] theorem freezeBytes_divider (a : Nat) (bytes : List Byte) (s : State) :
    (freezeBytes a bytes s).divider = s.divider := rfl
@[simp] theorem freezeBytes_timebase (a : Nat) (bytes : List Byte) (s : State) :
    (freezeBytes a bytes s).timebase = s.timebase := rfl
@[simp] theorem freezeBytes_permit (a : Nat) (bytes : List Byte) (s : State) :
    (freezeBytes a bytes s).permit = s.permit := rfl
@[simp] theorem freezeBytes_permitStab (a : Nat) (bytes : List Byte) (s : State) :
    (freezeBytes a bytes s).permitStab = s.permitStab := rfl
@[simp] theorem freezeBytes_inputs (a : Nat) (bytes : List Byte) (s : State) :
    (freezeBytes a bytes s).inputs = s.inputs := rfl
@[simp] theorem freezeBytes_grantMask (a : Nat) (bytes : List Byte) (s : State) :
    (freezeBytes a bytes s).grantMask = s.grantMask := rfl
@[simp] theorem freezeBytes_guardMask (a : Nat) (bytes : List Byte) (s : State) :
    (freezeBytes a bytes s).guardMask = s.guardMask := rfl
@[simp] theorem freezeBytes_units (a : Nat) (bytes : List Byte) (s : State) :
    (freezeBytes a bytes s).units = s.units := rfl
@[simp] theorem freezeBytes_counters (a : Nat) (bytes : List Byte) (s : State) :
    (freezeBytes a bytes s).counters = s.counters := rfl
@[simp] theorem freezeBytes_freeze (a : Nat) (bytes : List Byte) (s : State) :
    (freezeBytes a bytes s).freeze = s.freeze.writeAll a bytes := rfl
@[simp] theorem freezeBytes_recorder (a : Nat) (bytes : List Byte) (s : State) :
    (freezeBytes a bytes s).recorder = s.recorder := rfl
@[simp] theorem freezeBytes_capture (a : Nat) (bytes : List Byte) (s : State) :
    (freezeBytes a bytes s).capture = s.capture := rfl
@[simp] theorem freezeBytes_directory (a : Nat) (bytes : List Byte) (s : State) :
    (freezeBytes a bytes s).directory = s.directory := rfl
@[simp] theorem freezeBytes_window (a : Nat) (bytes : List Byte) (s : State) :
    (freezeBytes a bytes s).window = s.window := rfl
@[simp] theorem freezeBytes_alerts (a : Nat) (bytes : List Byte) (s : State) :
    (freezeBytes a bytes s).alerts = s.alerts := rfl
@[simp] theorem freezeBytes_supervisor (a : Nat) (bytes : List Byte) (s : State) :
    (freezeBytes a bytes s).supervisor = s.supervisor := rfl

/-! moveOn -/

@[simp] theorem moveOn_pending (s : State) : (moveOn s).pending = s.pending := rfl
@[simp] theorem moveOn_inPins (s : State) : (moveOn s).inPins = s.inPins := rfl
@[simp] theorem moveOn_outPins (s : State) : (moveOn s).outPins = s.outPins := rfl
@[simp] theorem moveOn_straps (s : State) : (moveOn s).straps = s.straps := rfl
@[simp] theorem moveOn_link (s : State) :
    (moveOn s).link = { s.link with parser := parserMovesOn s.link.parser } := rfl
@[simp] theorem moveOn_life (s : State) : (moveOn s).life = s.life := rfl
@[simp] theorem moveOn_power (s : State) : (moveOn s).power = s.power := rfl
@[simp] theorem moveOn_episode (s : State) : (moveOn s).episode = s.episode := rfl
@[simp] theorem moveOn_resetCause (s : State) : (moveOn s).resetCause = s.resetCause := rfl
@[simp] theorem moveOn_resetCount (s : State) : (moveOn s).resetCount = s.resetCount := rfl
@[simp] theorem moveOn_sweep (s : State) : (moveOn s).sweep = s.sweep := rfl
@[simp] theorem moveOn_lastResult (s : State) : (moveOn s).lastResult = s.lastResult := rfl
@[simp] theorem moveOn_locked (s : State) : (moveOn s).locked = s.locked := rfl
@[simp] theorem moveOn_hold (s : State) : (moveOn s).hold = s.hold := rfl
@[simp] theorem moveOn_prescaler (s : State) : (moveOn s).prescaler = s.prescaler := rfl
@[simp] theorem moveOn_divider (s : State) : (moveOn s).divider = s.divider := rfl
@[simp] theorem moveOn_timebase (s : State) : (moveOn s).timebase = s.timebase := rfl
@[simp] theorem moveOn_permit (s : State) : (moveOn s).permit = s.permit := rfl
@[simp] theorem moveOn_permitStab (s : State) : (moveOn s).permitStab = s.permitStab := rfl
@[simp] theorem moveOn_inputs (s : State) : (moveOn s).inputs = s.inputs := rfl
@[simp] theorem moveOn_grantMask (s : State) : (moveOn s).grantMask = s.grantMask := rfl
@[simp] theorem moveOn_guardMask (s : State) : (moveOn s).guardMask = s.guardMask := rfl
@[simp] theorem moveOn_units (s : State) : (moveOn s).units = s.units := rfl
@[simp] theorem moveOn_counters (s : State) : (moveOn s).counters = s.counters := rfl
@[simp] theorem moveOn_freeze (s : State) : (moveOn s).freeze = s.freeze := rfl
@[simp] theorem moveOn_recorder (s : State) : (moveOn s).recorder = s.recorder := rfl
@[simp] theorem moveOn_capture (s : State) : (moveOn s).capture = s.capture := rfl
@[simp] theorem moveOn_directory (s : State) : (moveOn s).directory = s.directory := rfl
@[simp] theorem moveOn_window (s : State) : (moveOn s).window = s.window := rfl
@[simp] theorem moveOn_alerts (s : State) : (moveOn s).alerts = s.alerts := rfl
@[simp] theorem moveOn_supervisor (s : State) : (moveOn s).supervisor = s.supervisor := rfl

/-! setParser -/

@[simp] theorem setParser_pending (p : Parser) (s : State) : (setParser p s).pending = s.pending := rfl
@[simp] theorem setParser_inPins (p : Parser) (s : State) : (setParser p s).inPins = s.inPins := rfl
@[simp] theorem setParser_outPins (p : Parser) (s : State) : (setParser p s).outPins = s.outPins := rfl
@[simp] theorem setParser_straps (p : Parser) (s : State) : (setParser p s).straps = s.straps := rfl
@[simp] theorem setParser_link (p : Parser) (s : State) : (setParser p s).link = { s.link with parser := p } := rfl
@[simp] theorem setParser_life (p : Parser) (s : State) : (setParser p s).life = s.life := rfl
@[simp] theorem setParser_power (p : Parser) (s : State) : (setParser p s).power = s.power := rfl
@[simp] theorem setParser_episode (p : Parser) (s : State) : (setParser p s).episode = s.episode := rfl
@[simp] theorem setParser_resetCause (p : Parser) (s : State) : (setParser p s).resetCause = s.resetCause := rfl
@[simp] theorem setParser_resetCount (p : Parser) (s : State) : (setParser p s).resetCount = s.resetCount := rfl
@[simp] theorem setParser_sweep (p : Parser) (s : State) : (setParser p s).sweep = s.sweep := rfl
@[simp] theorem setParser_lastResult (p : Parser) (s : State) : (setParser p s).lastResult = s.lastResult := rfl
@[simp] theorem setParser_locked (p : Parser) (s : State) : (setParser p s).locked = s.locked := rfl
@[simp] theorem setParser_hold (p : Parser) (s : State) : (setParser p s).hold = s.hold := rfl
@[simp] theorem setParser_prescaler (p : Parser) (s : State) : (setParser p s).prescaler = s.prescaler := rfl
@[simp] theorem setParser_divider (p : Parser) (s : State) : (setParser p s).divider = s.divider := rfl
@[simp] theorem setParser_timebase (p : Parser) (s : State) : (setParser p s).timebase = s.timebase := rfl
@[simp] theorem setParser_permit (p : Parser) (s : State) : (setParser p s).permit = s.permit := rfl
@[simp] theorem setParser_permitStab (p : Parser) (s : State) : (setParser p s).permitStab = s.permitStab := rfl
@[simp] theorem setParser_inputs (p : Parser) (s : State) : (setParser p s).inputs = s.inputs := rfl
@[simp] theorem setParser_grantMask (p : Parser) (s : State) : (setParser p s).grantMask = s.grantMask := rfl
@[simp] theorem setParser_guardMask (p : Parser) (s : State) : (setParser p s).guardMask = s.guardMask := rfl
@[simp] theorem setParser_units (p : Parser) (s : State) : (setParser p s).units = s.units := rfl
@[simp] theorem setParser_counters (p : Parser) (s : State) : (setParser p s).counters = s.counters := rfl
@[simp] theorem setParser_freeze (p : Parser) (s : State) : (setParser p s).freeze = s.freeze := rfl
@[simp] theorem setParser_recorder (p : Parser) (s : State) : (setParser p s).recorder = s.recorder := rfl
@[simp] theorem setParser_capture (p : Parser) (s : State) : (setParser p s).capture = s.capture := rfl
@[simp] theorem setParser_directory (p : Parser) (s : State) : (setParser p s).directory = s.directory := rfl
@[simp] theorem setParser_window (p : Parser) (s : State) : (setParser p s).window = s.window := rfl
@[simp] theorem setParser_alerts (p : Parser) (s : State) : (setParser p s).alerts = s.alerts := rfl
@[simp] theorem setParser_supervisor (p : Parser) (s : State) : (setParser p s).supervisor = s.supervisor := rfl

/-! setPins -/

@[simp] theorem setPins_pending (p : PinLevels) (s : State) : (setPins p s).pending = s.pending := rfl
@[simp] theorem setPins_inPins (p : PinLevels) (s : State) : (setPins p s).inPins = { s.inPins with
      ifsel := p.ifsel, adr := p.adr, prm := p.prm, csLow := p.csLow, rstLow := p.rstLow } := rfl
@[simp] theorem setPins_outPins (p : PinLevels) (s : State) : (setPins p s).outPins = s.outPins := rfl
@[simp] theorem setPins_straps (p : PinLevels) (s : State) : (setPins p s).straps = s.straps := rfl
@[simp] theorem setPins_link (p : PinLevels) (s : State) : (setPins p s).link = s.link := rfl
@[simp] theorem setPins_life (p : PinLevels) (s : State) : (setPins p s).life = s.life := rfl
@[simp] theorem setPins_power (p : PinLevels) (s : State) : (setPins p s).power = s.power := rfl
@[simp] theorem setPins_episode (p : PinLevels) (s : State) : (setPins p s).episode = s.episode := rfl
@[simp] theorem setPins_resetCause (p : PinLevels) (s : State) : (setPins p s).resetCause = s.resetCause := rfl
@[simp] theorem setPins_resetCount (p : PinLevels) (s : State) : (setPins p s).resetCount = s.resetCount := rfl
@[simp] theorem setPins_sweep (p : PinLevels) (s : State) : (setPins p s).sweep = s.sweep := rfl
@[simp] theorem setPins_lastResult (p : PinLevels) (s : State) : (setPins p s).lastResult = s.lastResult := rfl
@[simp] theorem setPins_locked (p : PinLevels) (s : State) : (setPins p s).locked = s.locked := rfl
@[simp] theorem setPins_hold (p : PinLevels) (s : State) : (setPins p s).hold = s.hold := rfl
@[simp] theorem setPins_prescaler (p : PinLevels) (s : State) : (setPins p s).prescaler = s.prescaler := rfl
@[simp] theorem setPins_divider (p : PinLevels) (s : State) : (setPins p s).divider = s.divider := rfl
@[simp] theorem setPins_timebase (p : PinLevels) (s : State) : (setPins p s).timebase = s.timebase := rfl
@[simp] theorem setPins_permit (p : PinLevels) (s : State) : (setPins p s).permit = s.permit := rfl
@[simp] theorem setPins_permitStab (p : PinLevels) (s : State) : (setPins p s).permitStab = s.permitStab := rfl
@[simp] theorem setPins_inputs (p : PinLevels) (s : State) : (setPins p s).inputs = s.inputs := rfl
@[simp] theorem setPins_grantMask (p : PinLevels) (s : State) : (setPins p s).grantMask = s.grantMask := rfl
@[simp] theorem setPins_guardMask (p : PinLevels) (s : State) : (setPins p s).guardMask = s.guardMask := rfl
@[simp] theorem setPins_units (p : PinLevels) (s : State) : (setPins p s).units = s.units := rfl
@[simp] theorem setPins_counters (p : PinLevels) (s : State) : (setPins p s).counters = s.counters := rfl
@[simp] theorem setPins_freeze (p : PinLevels) (s : State) : (setPins p s).freeze = s.freeze := rfl
@[simp] theorem setPins_recorder (p : PinLevels) (s : State) : (setPins p s).recorder = s.recorder := rfl
@[simp] theorem setPins_capture (p : PinLevels) (s : State) : (setPins p s).capture = s.capture := rfl
@[simp] theorem setPins_directory (p : PinLevels) (s : State) : (setPins p s).directory = s.directory := rfl
@[simp] theorem setPins_window (p : PinLevels) (s : State) : (setPins p s).window = s.window := rfl
@[simp] theorem setPins_alerts (p : PinLevels) (s : State) : (setPins p s).alerts = s.alerts := rfl
@[simp] theorem setPins_supervisor (p : PinLevels) (s : State) : (setPins p s).supervisor = s.supervisor := rfl

/-! showPins -/

@[simp] theorem showPins_pending (p : PinLevels) (s : State) : (showPins p s).pending = s.pending := rfl
@[simp] theorem showPins_inPins (p : PinLevels) (s : State) : (showPins p s).inPins = (setPins p s).inPins := rfl
@[simp] theorem showPins_outPins (p : PinLevels) (s : State) : (showPins p s).outPins = s.outPins := rfl
@[simp] theorem showPins_straps (p : PinLevels) (s : State) : (showPins p s).straps = s.straps := rfl
@[simp] theorem showPins_link (p : PinLevels) (s : State) :
    (showPins p s).link = { s.link with out := ignoredOut s.straps.i2c p.csLow } := rfl
@[simp] theorem showPins_life (p : PinLevels) (s : State) : (showPins p s).life = s.life := rfl
@[simp] theorem showPins_power (p : PinLevels) (s : State) : (showPins p s).power = s.power := rfl
@[simp] theorem showPins_episode (p : PinLevels) (s : State) : (showPins p s).episode = s.episode := rfl
@[simp] theorem showPins_resetCause (p : PinLevels) (s : State) : (showPins p s).resetCause = s.resetCause := rfl
@[simp] theorem showPins_resetCount (p : PinLevels) (s : State) : (showPins p s).resetCount = s.resetCount := rfl
@[simp] theorem showPins_sweep (p : PinLevels) (s : State) : (showPins p s).sweep = s.sweep := rfl
@[simp] theorem showPins_lastResult (p : PinLevels) (s : State) : (showPins p s).lastResult = s.lastResult := rfl
@[simp] theorem showPins_locked (p : PinLevels) (s : State) : (showPins p s).locked = s.locked := rfl
@[simp] theorem showPins_hold (p : PinLevels) (s : State) : (showPins p s).hold = s.hold := rfl
@[simp] theorem showPins_prescaler (p : PinLevels) (s : State) : (showPins p s).prescaler = s.prescaler := rfl
@[simp] theorem showPins_divider (p : PinLevels) (s : State) : (showPins p s).divider = s.divider := rfl
@[simp] theorem showPins_timebase (p : PinLevels) (s : State) : (showPins p s).timebase = s.timebase := rfl
@[simp] theorem showPins_permit (p : PinLevels) (s : State) : (showPins p s).permit = s.permit := rfl
@[simp] theorem showPins_permitStab (p : PinLevels) (s : State) : (showPins p s).permitStab = s.permitStab := rfl
@[simp] theorem showPins_inputs (p : PinLevels) (s : State) : (showPins p s).inputs = s.inputs := rfl
@[simp] theorem showPins_grantMask (p : PinLevels) (s : State) : (showPins p s).grantMask = s.grantMask := rfl
@[simp] theorem showPins_guardMask (p : PinLevels) (s : State) : (showPins p s).guardMask = s.guardMask := rfl
@[simp] theorem showPins_units (p : PinLevels) (s : State) : (showPins p s).units = s.units := rfl
@[simp] theorem showPins_counters (p : PinLevels) (s : State) : (showPins p s).counters = s.counters := rfl
@[simp] theorem showPins_freeze (p : PinLevels) (s : State) : (showPins p s).freeze = s.freeze := rfl
@[simp] theorem showPins_recorder (p : PinLevels) (s : State) : (showPins p s).recorder = s.recorder := rfl
@[simp] theorem showPins_capture (p : PinLevels) (s : State) : (showPins p s).capture = s.capture := rfl
@[simp] theorem showPins_directory (p : PinLevels) (s : State) : (showPins p s).directory = s.directory := rfl
@[simp] theorem showPins_window (p : PinLevels) (s : State) : (showPins p s).window = s.window := rfl
@[simp] theorem showPins_alerts (p : PinLevels) (s : State) : (showPins p s).alerts = s.alerts := rfl
@[simp] theorem showPins_supervisor (p : PinLevels) (s : State) : (showPins p s).supervisor = s.supervisor := rfl

/-! lineAtStart -/

@[simp] theorem lineAtStart_pending (r : Bool) (s : State) : (lineAtStart r s).pending = s.pending := rfl
@[simp] theorem lineAtStart_inPins (r : Bool) (s : State) : (lineAtStart r s).inPins = s.inPins := rfl
@[simp] theorem lineAtStart_outPins (r : Bool) (s : State) : (lineAtStart r s).outPins = s.outPins := rfl
@[simp] theorem lineAtStart_straps (r : Bool) (s : State) : (lineAtStart r s).straps = s.straps := rfl
@[simp] theorem lineAtStart_link (r : Bool) (s : State) : (lineAtStart r s).link = { s.link with
      transfer := if s.straps.i2c then transferOf r else .none
      out := if s.straps.i2c then none else some 0, ack := s.straps.i2c } := rfl
@[simp] theorem lineAtStart_life (r : Bool) (s : State) : (lineAtStart r s).life = s.life := rfl
@[simp] theorem lineAtStart_power (r : Bool) (s : State) : (lineAtStart r s).power = s.power := rfl
@[simp] theorem lineAtStart_episode (r : Bool) (s : State) : (lineAtStart r s).episode = s.episode := rfl
@[simp] theorem lineAtStart_resetCause (r : Bool) (s : State) : (lineAtStart r s).resetCause = s.resetCause := rfl
@[simp] theorem lineAtStart_resetCount (r : Bool) (s : State) : (lineAtStart r s).resetCount = s.resetCount := rfl
@[simp] theorem lineAtStart_sweep (r : Bool) (s : State) : (lineAtStart r s).sweep = s.sweep := rfl
@[simp] theorem lineAtStart_lastResult (r : Bool) (s : State) : (lineAtStart r s).lastResult = s.lastResult := rfl
@[simp] theorem lineAtStart_locked (r : Bool) (s : State) : (lineAtStart r s).locked = s.locked := rfl
@[simp] theorem lineAtStart_hold (r : Bool) (s : State) : (lineAtStart r s).hold = s.hold := rfl
@[simp] theorem lineAtStart_prescaler (r : Bool) (s : State) : (lineAtStart r s).prescaler = s.prescaler := rfl
@[simp] theorem lineAtStart_divider (r : Bool) (s : State) : (lineAtStart r s).divider = s.divider := rfl
@[simp] theorem lineAtStart_timebase (r : Bool) (s : State) : (lineAtStart r s).timebase = s.timebase := rfl
@[simp] theorem lineAtStart_permit (r : Bool) (s : State) : (lineAtStart r s).permit = s.permit := rfl
@[simp] theorem lineAtStart_permitStab (r : Bool) (s : State) : (lineAtStart r s).permitStab = s.permitStab := rfl
@[simp] theorem lineAtStart_inputs (r : Bool) (s : State) : (lineAtStart r s).inputs = s.inputs := rfl
@[simp] theorem lineAtStart_grantMask (r : Bool) (s : State) : (lineAtStart r s).grantMask = s.grantMask := rfl
@[simp] theorem lineAtStart_guardMask (r : Bool) (s : State) : (lineAtStart r s).guardMask = s.guardMask := rfl
@[simp] theorem lineAtStart_units (r : Bool) (s : State) : (lineAtStart r s).units = s.units := rfl
@[simp] theorem lineAtStart_counters (r : Bool) (s : State) : (lineAtStart r s).counters = s.counters := rfl
@[simp] theorem lineAtStart_freeze (r : Bool) (s : State) : (lineAtStart r s).freeze = s.freeze := rfl
@[simp] theorem lineAtStart_recorder (r : Bool) (s : State) : (lineAtStart r s).recorder = s.recorder := rfl
@[simp] theorem lineAtStart_capture (r : Bool) (s : State) : (lineAtStart r s).capture = s.capture := rfl
@[simp] theorem lineAtStart_directory (r : Bool) (s : State) : (lineAtStart r s).directory = s.directory := rfl
@[simp] theorem lineAtStart_window (r : Bool) (s : State) : (lineAtStart r s).window = s.window := rfl
@[simp] theorem lineAtStart_alerts (r : Bool) (s : State) : (lineAtStart r s).alerts = s.alerts := rfl
@[simp] theorem lineAtStart_supervisor (r : Bool) (s : State) : (lineAtStart r s).supervisor = s.supervisor := rfl

/-! fixValue -/

@[simp] theorem fixValue_pending (s : State) : (fixValue s).pending = s.pending := rfl
@[simp] theorem fixValue_inPins (s : State) : (fixValue s).inPins = s.inPins := rfl
@[simp] theorem fixValue_outPins (s : State) : (fixValue s).outPins = s.outPins := rfl
@[simp] theorem fixValue_straps (s : State) : (fixValue s).straps = s.straps := rfl
@[simp] theorem fixValue_link (s : State) : (fixValue s).link = { s.link with out := some (windowValue s) } := rfl
@[simp] theorem fixValue_life (s : State) : (fixValue s).life = s.life := rfl
@[simp] theorem fixValue_power (s : State) : (fixValue s).power = s.power := rfl
@[simp] theorem fixValue_episode (s : State) : (fixValue s).episode = s.episode := rfl
@[simp] theorem fixValue_resetCause (s : State) : (fixValue s).resetCause = s.resetCause := rfl
@[simp] theorem fixValue_resetCount (s : State) : (fixValue s).resetCount = s.resetCount := rfl
@[simp] theorem fixValue_sweep (s : State) : (fixValue s).sweep = s.sweep := rfl
@[simp] theorem fixValue_lastResult (s : State) : (fixValue s).lastResult = s.lastResult := rfl
@[simp] theorem fixValue_locked (s : State) : (fixValue s).locked = s.locked := rfl
@[simp] theorem fixValue_hold (s : State) : (fixValue s).hold = s.hold := rfl
@[simp] theorem fixValue_prescaler (s : State) : (fixValue s).prescaler = s.prescaler := rfl
@[simp] theorem fixValue_divider (s : State) : (fixValue s).divider = s.divider := rfl
@[simp] theorem fixValue_timebase (s : State) : (fixValue s).timebase = s.timebase := rfl
@[simp] theorem fixValue_permit (s : State) : (fixValue s).permit = s.permit := rfl
@[simp] theorem fixValue_permitStab (s : State) : (fixValue s).permitStab = s.permitStab := rfl
@[simp] theorem fixValue_inputs (s : State) : (fixValue s).inputs = s.inputs := rfl
@[simp] theorem fixValue_grantMask (s : State) : (fixValue s).grantMask = s.grantMask := rfl
@[simp] theorem fixValue_guardMask (s : State) : (fixValue s).guardMask = s.guardMask := rfl
@[simp] theorem fixValue_units (s : State) : (fixValue s).units = s.units := rfl
@[simp] theorem fixValue_counters (s : State) : (fixValue s).counters = s.counters := rfl
@[simp] theorem fixValue_freeze (s : State) : (fixValue s).freeze = s.freeze := rfl
@[simp] theorem fixValue_recorder (s : State) : (fixValue s).recorder = s.recorder := rfl
@[simp] theorem fixValue_capture (s : State) : (fixValue s).capture = s.capture := rfl
@[simp] theorem fixValue_directory (s : State) : (fixValue s).directory = s.directory := rfl
@[simp] theorem fixValue_window (s : State) : (fixValue s).window = s.window := rfl
@[simp] theorem fixValue_alerts (s : State) : (fixValue s).alerts = s.alerts := rfl
@[simp] theorem fixValue_supervisor (s : State) : (fixValue s).supervisor = s.supervisor := rfl

/-! State.withPending -/

@[simp] theorem State.withPending_pending (s : State) (q : List Instr) : (s.withPending q).pending = q := rfl
@[simp] theorem State.withPending_inPins (s : State) (q : List Instr) : (s.withPending q).inPins = s.inPins := rfl
@[simp] theorem State.withPending_outPins (s : State) (q : List Instr) : (s.withPending q).outPins = s.outPins := rfl
@[simp] theorem State.withPending_straps (s : State) (q : List Instr) : (s.withPending q).straps = s.straps := rfl
@[simp] theorem State.withPending_link (s : State) (q : List Instr) : (s.withPending q).link = s.link := rfl
@[simp] theorem State.withPending_life (s : State) (q : List Instr) : (s.withPending q).life = s.life := rfl
@[simp] theorem State.withPending_power (s : State) (q : List Instr) : (s.withPending q).power = s.power := rfl
@[simp] theorem State.withPending_episode (s : State) (q : List Instr) : (s.withPending q).episode = s.episode := rfl
@[simp] theorem State.withPending_resetCause (s : State) (q : List Instr) :
    (s.withPending q).resetCause = s.resetCause := rfl
@[simp] theorem State.withPending_resetCount (s : State) (q : List Instr) :
    (s.withPending q).resetCount = s.resetCount := rfl
@[simp] theorem State.withPending_sweep (s : State) (q : List Instr) : (s.withPending q).sweep = s.sweep := rfl
@[simp] theorem State.withPending_lastResult (s : State) (q : List Instr) :
    (s.withPending q).lastResult = s.lastResult := rfl
@[simp] theorem State.withPending_locked (s : State) (q : List Instr) : (s.withPending q).locked = s.locked := rfl
@[simp] theorem State.withPending_hold (s : State) (q : List Instr) : (s.withPending q).hold = s.hold := rfl
@[simp] theorem State.withPending_prescaler (s : State) (q : List Instr) :
    (s.withPending q).prescaler = s.prescaler := rfl
@[simp] theorem State.withPending_divider (s : State) (q : List Instr) : (s.withPending q).divider = s.divider := rfl
@[simp] theorem State.withPending_timebase (s : State) (q : List Instr) :
    (s.withPending q).timebase = s.timebase := rfl
@[simp] theorem State.withPending_permit (s : State) (q : List Instr) : (s.withPending q).permit = s.permit := rfl
@[simp] theorem State.withPending_permitStab (s : State) (q : List Instr) :
    (s.withPending q).permitStab = s.permitStab := rfl
@[simp] theorem State.withPending_inputs (s : State) (q : List Instr) : (s.withPending q).inputs = s.inputs := rfl
@[simp] theorem State.withPending_grantMask (s : State) (q : List Instr) :
    (s.withPending q).grantMask = s.grantMask := rfl
@[simp] theorem State.withPending_guardMask (s : State) (q : List Instr) :
    (s.withPending q).guardMask = s.guardMask := rfl
@[simp] theorem State.withPending_units (s : State) (q : List Instr) : (s.withPending q).units = s.units := rfl
@[simp] theorem State.withPending_counters (s : State) (q : List Instr) :
    (s.withPending q).counters = s.counters := rfl
@[simp] theorem State.withPending_freeze (s : State) (q : List Instr) : (s.withPending q).freeze = s.freeze := rfl
@[simp] theorem State.withPending_recorder (s : State) (q : List Instr) :
    (s.withPending q).recorder = s.recorder := rfl
@[simp] theorem State.withPending_capture (s : State) (q : List Instr) : (s.withPending q).capture = s.capture := rfl
@[simp] theorem State.withPending_directory (s : State) (q : List Instr) :
    (s.withPending q).directory = s.directory := rfl
@[simp] theorem State.withPending_window (s : State) (q : List Instr) : (s.withPending q).window = s.window := rfl
@[simp] theorem State.withPending_alerts (s : State) (q : List Instr) : (s.withPending q).alerts = s.alerts := rfl
@[simp] theorem State.withPending_supervisor (s : State) (q : List Instr) :
    (s.withPending q).supervisor = s.supervisor := rfl

/-! The units, by bank -/

@[simp] theorem Units.bank_setBank (u : Units) (b : Bank) (x : UnitState) : (u.setBank b x).bank b = x := by
  cases b <;> rfl

theorem Units.bank_setBank_of_ne (u : Units) {b c : Bank} (h : c ≠ b) (x : UnitState) :
    (u.setBank b x).bank c = u.bank c := by
  cases b <;> cases c <;> first | rfl | exact absurd rfl h

@[simp] theorem Units.recorder_setBank (u : Units) (b : Bank) (x : UnitState) :
    (u.setBank b x).recorder = u.recorder := by
  cases b <;> rfl

/-! The two questions whether an event reaches the part -/

theorem linkUp_iff (s : State) : linkUp s = true ↔ s.life = .opened ∨ s.life = .committed := by
  simp [linkUp]

theorem ticking_iff (s : State) : ticking s = true ↔ linkUp s = true ∧ s.power = .run := by
  simp [ticking]

end Sys2Proof.Machine
end

