-- ==== Sys2Proof/Laws/Frames.lean ====
section
/-! SUPPORT. Frames of the shared operations: for each ONE lemma, a simp set of its own, that says every field of
the state it leaves alone. A proof that cites it never unfolds the operation. -/

namespace Sys2Proof.Machine

/-- What every step of a fold keeps, the fold keeps. -/
theorem foldl_keeps {α β : Type} (f : State → α) (g : State → β → State) (h : ∀ t n, f (g t n) = f t) (l : List β)
    (s : State) : f (l.foldl g s) = f s := by
  induction l generalizing s with
  | nil => rfl
  | cons a l ih => rw [List.foldl_cons, ih, h]

/-- A counter that is offered a count touches the counters and, at a wrap, the pending set (R76, R85, R86). It touches nothing but counters, alerts. -/
@[simp] theorem offerCount_keeps (c : Fin 45) (s : State) :
    (offerCount c s).pending = s.pending ∧ (offerCount c s).inPins = s.inPins ∧
    (offerCount c s).outPins = s.outPins ∧ (offerCount c s).straps = s.straps ∧ (offerCount c s).link = s.link ∧
    (offerCount c s).life = s.life ∧ (offerCount c s).power = s.power ∧ (offerCount c s).episode = s.episode ∧
    (offerCount c s).resetCause = s.resetCause ∧ (offerCount c s).resetCount = s.resetCount ∧
    (offerCount c s).sweep = s.sweep ∧ (offerCount c s).lastResult = s.lastResult ∧
    (offerCount c s).locked = s.locked ∧ (offerCount c s).hold = s.hold ∧ (offerCount c s).prescaler = s.prescaler ∧
    (offerCount c s).divider = s.divider ∧ (offerCount c s).timebase = s.timebase ∧
    (offerCount c s).permit = s.permit ∧ (offerCount c s).permitStab = s.permitStab ∧
    (offerCount c s).inputs = s.inputs ∧ (offerCount c s).grantMask = s.grantMask ∧
    (offerCount c s).guardMask = s.guardMask ∧ (offerCount c s).units = s.units ∧
    (offerCount c s).freeze = s.freeze ∧ (offerCount c s).recorder = s.recorder ∧
    (offerCount c s).capture = s.capture ∧ (offerCount c s).directory = s.directory ∧
    (offerCount c s).window = s.window ∧ (offerCount c s).supervisor = s.supervisor := by
  unfold offerCount; split_ifs <;> simp

/-- Counts offered one after another. It touches nothing but counters, alerts. -/
@[simp] theorem offerCounts_keeps (c : Fin 45) (n : Nat) (s : State) :
    (offerCounts c n s).pending = s.pending ∧ (offerCounts c n s).inPins = s.inPins ∧
    (offerCounts c n s).outPins = s.outPins ∧ (offerCounts c n s).straps = s.straps ∧
    (offerCounts c n s).link = s.link ∧ (offerCounts c n s).life = s.life ∧ (offerCounts c n s).power = s.power ∧
    (offerCounts c n s).episode = s.episode ∧ (offerCounts c n s).resetCause = s.resetCause ∧
    (offerCounts c n s).resetCount = s.resetCount ∧ (offerCounts c n s).sweep = s.sweep ∧
    (offerCounts c n s).lastResult = s.lastResult ∧ (offerCounts c n s).locked = s.locked ∧
    (offerCounts c n s).hold = s.hold ∧ (offerCounts c n s).prescaler = s.prescaler ∧
    (offerCounts c n s).divider = s.divider ∧ (offerCounts c n s).timebase = s.timebase ∧
    (offerCounts c n s).permit = s.permit ∧ (offerCounts c n s).permitStab = s.permitStab ∧
    (offerCounts c n s).inputs = s.inputs ∧ (offerCounts c n s).grantMask = s.grantMask ∧
    (offerCounts c n s).guardMask = s.guardMask ∧ (offerCounts c n s).units = s.units ∧
    (offerCounts c n s).freeze = s.freeze ∧ (offerCounts c n s).recorder = s.recorder ∧
    (offerCounts c n s).capture = s.capture ∧ (offerCounts c n s).directory = s.directory ∧
    (offerCounts c n s).window = s.window ∧ (offerCounts c n s).supervisor = s.supervisor := by
  induction n generalizing s with
  | zero => simp [offerCounts]
  | succ n ih => simp [offerCounts, ih]

/-- A loss at the queue (R83, R112). It touches nothing but counters, alerts. -/
@[simp] theorem countLost_keeps (s : State) :
    (countLost s).pending = s.pending ∧ (countLost s).inPins = s.inPins ∧ (countLost s).outPins = s.outPins ∧
    (countLost s).straps = s.straps ∧ (countLost s).link = s.link ∧ (countLost s).life = s.life ∧
    (countLost s).power = s.power ∧ (countLost s).episode = s.episode ∧ (countLost s).resetCause = s.resetCause ∧
    (countLost s).resetCount = s.resetCount ∧ (countLost s).sweep = s.sweep ∧
    (countLost s).lastResult = s.lastResult ∧ (countLost s).locked = s.locked ∧ (countLost s).hold = s.hold ∧
    (countLost s).prescaler = s.prescaler ∧ (countLost s).divider = s.divider ∧
    (countLost s).timebase = s.timebase ∧ (countLost s).permit = s.permit ∧
    (countLost s).permitStab = s.permitStab ∧ (countLost s).inputs = s.inputs ∧
    (countLost s).grantMask = s.grantMask ∧ (countLost s).guardMask = s.guardMask ∧ (countLost s).units = s.units ∧
    (countLost s).freeze = s.freeze ∧ (countLost s).recorder = s.recorder ∧ (countLost s).capture = s.capture ∧
    (countLost s).directory = s.directory ∧ (countLost s).window = s.window ∧
    (countLost s).supervisor = s.supervisor := by
  simp [countLost]

/-- The offer rule (R112). It touches nothing but recorder, counters, alerts. -/
@[simp] theorem offer_keeps (r : Rec) (s : State) :
    (offer r s).pending = s.pending ∧ (offer r s).inPins = s.inPins ∧ (offer r s).outPins = s.outPins ∧
    (offer r s).straps = s.straps ∧ (offer r s).link = s.link ∧ (offer r s).life = s.life ∧
    (offer r s).power = s.power ∧ (offer r s).episode = s.episode ∧ (offer r s).resetCause = s.resetCause ∧
    (offer r s).resetCount = s.resetCount ∧ (offer r s).sweep = s.sweep ∧ (offer r s).lastResult = s.lastResult ∧
    (offer r s).locked = s.locked ∧ (offer r s).hold = s.hold ∧ (offer r s).prescaler = s.prescaler ∧
    (offer r s).divider = s.divider ∧ (offer r s).timebase = s.timebase ∧ (offer r s).permit = s.permit ∧
    (offer r s).permitStab = s.permitStab ∧ (offer r s).inputs = s.inputs ∧ (offer r s).grantMask = s.grantMask ∧
    (offer r s).guardMask = s.guardMask ∧ (offer r s).units = s.units ∧ (offer r s).freeze = s.freeze ∧
    (offer r s).capture = s.capture ∧ (offer r s).directory = s.directory ∧ (offer r s).window = s.window ∧
    (offer r s).supervisor = s.supervisor := by
  unfold offer; dsimp only; (repeat' split) <;> simp

/-- A snapshot offered (R115). It touches nothing but recorder, counters, alerts. -/
@[simp] theorem offerSnapshot_keeps (d : Bool) (m : BitVec 4) (s : State) :
    (offerSnapshot d m s).pending = s.pending ∧ (offerSnapshot d m s).inPins = s.inPins ∧
    (offerSnapshot d m s).outPins = s.outPins ∧ (offerSnapshot d m s).straps = s.straps ∧
    (offerSnapshot d m s).link = s.link ∧ (offerSnapshot d m s).life = s.life ∧
    (offerSnapshot d m s).power = s.power ∧ (offerSnapshot d m s).episode = s.episode ∧
    (offerSnapshot d m s).resetCause = s.resetCause ∧ (offerSnapshot d m s).resetCount = s.resetCount ∧
    (offerSnapshot d m s).sweep = s.sweep ∧ (offerSnapshot d m s).lastResult = s.lastResult ∧
    (offerSnapshot d m s).locked = s.locked ∧ (offerSnapshot d m s).hold = s.hold ∧
    (offerSnapshot d m s).prescaler = s.prescaler ∧ (offerSnapshot d m s).divider = s.divider ∧
    (offerSnapshot d m s).timebase = s.timebase ∧ (offerSnapshot d m s).permit = s.permit ∧
    (offerSnapshot d m s).permitStab = s.permitStab ∧ (offerSnapshot d m s).inputs = s.inputs ∧
    (offerSnapshot d m s).grantMask = s.grantMask ∧ (offerSnapshot d m s).guardMask = s.guardMask ∧
    (offerSnapshot d m s).units = s.units ∧ (offerSnapshot d m s).freeze = s.freeze ∧
    (offerSnapshot d m s).capture = s.capture ∧ (offerSnapshot d m s).directory = s.directory ∧
    (offerSnapshot d m s).window = s.window ∧ (offerSnapshot d m s).supervisor = s.supervisor := by
  simp [offerSnapshot]

/-- A deferred sampling point (R116). It touches nothing but recorder. -/
@[simp] theorem deferSample_keeps (s : State) :
    (deferSample s).pending = s.pending ∧ (deferSample s).inPins = s.inPins ∧ (deferSample s).outPins = s.outPins ∧
    (deferSample s).straps = s.straps ∧ (deferSample s).link = s.link ∧ (deferSample s).life = s.life ∧
    (deferSample s).power = s.power ∧ (deferSample s).episode = s.episode ∧
    (deferSample s).resetCause = s.resetCause ∧ (deferSample s).resetCount = s.resetCount ∧
    (deferSample s).sweep = s.sweep ∧ (deferSample s).lastResult = s.lastResult ∧
    (deferSample s).locked = s.locked ∧ (deferSample s).hold = s.hold ∧ (deferSample s).prescaler = s.prescaler ∧
    (deferSample s).divider = s.divider ∧ (deferSample s).timebase = s.timebase ∧
    (deferSample s).permit = s.permit ∧ (deferSample s).permitStab = s.permitStab ∧
    (deferSample s).inputs = s.inputs ∧ (deferSample s).grantMask = s.grantMask ∧
    (deferSample s).guardMask = s.guardMask ∧ (deferSample s).units = s.units ∧
    (deferSample s).counters = s.counters ∧ (deferSample s).freeze = s.freeze ∧
    (deferSample s).capture = s.capture ∧ (deferSample s).directory = s.directory ∧
    (deferSample s).window = s.window ∧ (deferSample s).alerts = s.alerts ∧
    (deferSample s).supervisor = s.supervisor := by
  unfold deferSample; dsimp only; (repeat' split) <;> simp

/-- Step 6 of a tick (R114). It touches nothing but recorder, counters, alerts. -/
@[simp] theorem sampleStep_keeps (s : State) :
    (sampleStep s).pending = s.pending ∧ (sampleStep s).inPins = s.inPins ∧ (sampleStep s).outPins = s.outPins ∧
    (sampleStep s).straps = s.straps ∧ (sampleStep s).link = s.link ∧ (sampleStep s).life = s.life ∧
    (sampleStep s).power = s.power ∧ (sampleStep s).episode = s.episode ∧ (sampleStep s).resetCause = s.resetCause ∧
    (sampleStep s).resetCount = s.resetCount ∧ (sampleStep s).sweep = s.sweep ∧
    (sampleStep s).lastResult = s.lastResult ∧ (sampleStep s).locked = s.locked ∧ (sampleStep s).hold = s.hold ∧
    (sampleStep s).prescaler = s.prescaler ∧ (sampleStep s).divider = s.divider ∧
    (sampleStep s).timebase = s.timebase ∧ (sampleStep s).permit = s.permit ∧
    (sampleStep s).permitStab = s.permitStab ∧ (sampleStep s).inputs = s.inputs ∧
    (sampleStep s).grantMask = s.grantMask ∧ (sampleStep s).guardMask = s.guardMask ∧
    (sampleStep s).units = s.units ∧ (sampleStep s).freeze = s.freeze ∧ (sampleStep s).capture = s.capture ∧
    (sampleStep s).directory = s.directory ∧ (sampleStep s).window = s.window ∧
    (sampleStep s).supervisor = s.supervisor := by
  unfold sampleStep; (repeat' split) <;> (try dsimp only) <;> (repeat' split) <;> simp

/-- Step 2 of R36. It touches nothing but recorder, counters, alerts. -/
@[simp] theorem settleDeferral_keeps (s : State) :
    (settleDeferral s).pending = s.pending ∧ (settleDeferral s).inPins = s.inPins ∧
    (settleDeferral s).outPins = s.outPins ∧ (settleDeferral s).straps = s.straps ∧
    (settleDeferral s).link = s.link ∧ (settleDeferral s).life = s.life ∧ (settleDeferral s).power = s.power ∧
    (settleDeferral s).episode = s.episode ∧ (settleDeferral s).resetCause = s.resetCause ∧
    (settleDeferral s).resetCount = s.resetCount ∧ (settleDeferral s).sweep = s.sweep ∧
    (settleDeferral s).lastResult = s.lastResult ∧ (settleDeferral s).locked = s.locked ∧
    (settleDeferral s).hold = s.hold ∧ (settleDeferral s).prescaler = s.prescaler ∧
    (settleDeferral s).divider = s.divider ∧ (settleDeferral s).timebase = s.timebase ∧
    (settleDeferral s).permit = s.permit ∧ (settleDeferral s).permitStab = s.permitStab ∧
    (settleDeferral s).inputs = s.inputs ∧ (settleDeferral s).grantMask = s.grantMask ∧
    (settleDeferral s).guardMask = s.guardMask ∧ (settleDeferral s).units = s.units ∧
    (settleDeferral s).freeze = s.freeze ∧ (settleDeferral s).capture = s.capture ∧
    (settleDeferral s).directory = s.directory ∧ (settleDeferral s).window = s.window ∧
    (settleDeferral s).supervisor = s.supervisor := by
  unfold settleDeferral; dsimp only; (repeat' split) <;> simp

/-- Leaf entry (R123). It touches nothing but recorder, capture. -/
@[simp] theorem leafEntry_keeps (s : State) :
    (leafEntry s).pending = s.pending ∧ (leafEntry s).inPins = s.inPins ∧ (leafEntry s).outPins = s.outPins ∧
    (leafEntry s).straps = s.straps ∧ (leafEntry s).link = s.link ∧ (leafEntry s).life = s.life ∧
    (leafEntry s).power = s.power ∧ (leafEntry s).episode = s.episode ∧ (leafEntry s).resetCause = s.resetCause ∧
    (leafEntry s).resetCount = s.resetCount ∧ (leafEntry s).sweep = s.sweep ∧
    (leafEntry s).lastResult = s.lastResult ∧ (leafEntry s).locked = s.locked ∧ (leafEntry s).hold = s.hold ∧
    (leafEntry s).prescaler = s.prescaler ∧ (leafEntry s).divider = s.divider ∧
    (leafEntry s).timebase = s.timebase ∧ (leafEntry s).permit = s.permit ∧
    (leafEntry s).permitStab = s.permitStab ∧ (leafEntry s).inputs = s.inputs ∧
    (leafEntry s).grantMask = s.grantMask ∧ (leafEntry s).guardMask = s.guardMask ∧ (leafEntry s).units = s.units ∧
    (leafEntry s).counters = s.counters ∧ (leafEntry s).freeze = s.freeze ∧ (leafEntry s).directory = s.directory ∧
    (leafEntry s).window = s.window ∧ (leafEntry s).alerts = s.alerts ∧ (leafEntry s).supervisor = s.supervisor := by
  unfold leafEntry; dsimp only; (repeat' split) <;> simp

/-- An arrival at a leaf (R107, R124). It touches nothing but recorder, capture. -/
@[simp] theorem arrive_keeps (e : BitVec 6) (l : Byte) (s : State) :
    (arrive e l s).pending = s.pending ∧ (arrive e l s).inPins = s.inPins ∧ (arrive e l s).outPins = s.outPins ∧
    (arrive e l s).straps = s.straps ∧ (arrive e l s).link = s.link ∧ (arrive e l s).life = s.life ∧
    (arrive e l s).power = s.power ∧ (arrive e l s).episode = s.episode ∧ (arrive e l s).resetCause = s.resetCause ∧
    (arrive e l s).resetCount = s.resetCount ∧ (arrive e l s).sweep = s.sweep ∧
    (arrive e l s).lastResult = s.lastResult ∧ (arrive e l s).locked = s.locked ∧ (arrive e l s).hold = s.hold ∧
    (arrive e l s).prescaler = s.prescaler ∧ (arrive e l s).divider = s.divider ∧
    (arrive e l s).timebase = s.timebase ∧ (arrive e l s).permit = s.permit ∧
    (arrive e l s).permitStab = s.permitStab ∧ (arrive e l s).inputs = s.inputs ∧
    (arrive e l s).grantMask = s.grantMask ∧ (arrive e l s).guardMask = s.guardMask ∧
    (arrive e l s).units = s.units ∧ (arrive e l s).counters = s.counters ∧ (arrive e l s).freeze = s.freeze ∧
    (arrive e l s).directory = s.directory ∧ (arrive e l s).window = s.window ∧ (arrive e l s).alerts = s.alerts ∧
    (arrive e l s).supervisor = s.supervisor := by
  simp [arrive]

/-- The queue discarded (R83). It touches nothing but recorder, counters, alerts. -/
@[simp] theorem discardQueue_keeps (s : State) :
    (discardQueue s).pending = s.pending ∧ (discardQueue s).inPins = s.inPins ∧
    (discardQueue s).outPins = s.outPins ∧ (discardQueue s).straps = s.straps ∧ (discardQueue s).link = s.link ∧
    (discardQueue s).life = s.life ∧ (discardQueue s).power = s.power ∧ (discardQueue s).episode = s.episode ∧
    (discardQueue s).resetCause = s.resetCause ∧ (discardQueue s).resetCount = s.resetCount ∧
    (discardQueue s).sweep = s.sweep ∧ (discardQueue s).lastResult = s.lastResult ∧
    (discardQueue s).locked = s.locked ∧ (discardQueue s).hold = s.hold ∧ (discardQueue s).prescaler = s.prescaler ∧
    (discardQueue s).divider = s.divider ∧ (discardQueue s).timebase = s.timebase ∧
    (discardQueue s).permit = s.permit ∧ (discardQueue s).permitStab = s.permitStab ∧
    (discardQueue s).inputs = s.inputs ∧ (discardQueue s).grantMask = s.grantMask ∧
    (discardQueue s).guardMask = s.guardMask ∧ (discardQueue s).units = s.units ∧
    (discardQueue s).freeze = s.freeze ∧ (discardQueue s).capture = s.capture ∧
    (discardQueue s).directory = s.directory ∧ (discardQueue s).window = s.window ∧
    (discardQueue s).supervisor = s.supervisor := by
  simp [discardQueue]

/-- STOP (R125). It touches nothing but units, recorder, counters, alerts. -/
@[simp] theorem stopAt_keeps (e : BitVec 6) (s : State) :
    (stopAt e s).pending = s.pending ∧ (stopAt e s).inPins = s.inPins ∧ (stopAt e s).outPins = s.outPins ∧
    (stopAt e s).straps = s.straps ∧ (stopAt e s).link = s.link ∧ (stopAt e s).life = s.life ∧
    (stopAt e s).power = s.power ∧ (stopAt e s).episode = s.episode ∧ (stopAt e s).resetCause = s.resetCause ∧
    (stopAt e s).resetCount = s.resetCount ∧ (stopAt e s).sweep = s.sweep ∧ (stopAt e s).lastResult = s.lastResult ∧
    (stopAt e s).locked = s.locked ∧ (stopAt e s).hold = s.hold ∧ (stopAt e s).prescaler = s.prescaler ∧
    (stopAt e s).divider = s.divider ∧ (stopAt e s).timebase = s.timebase ∧ (stopAt e s).permit = s.permit ∧
    (stopAt e s).permitStab = s.permitStab ∧ (stopAt e s).inputs = s.inputs ∧ (stopAt e s).grantMask = s.grantMask ∧
    (stopAt e s).guardMask = s.guardMask ∧ (stopAt e s).freeze = s.freeze ∧ (stopAt e s).capture = s.capture ∧
    (stopAt e s).directory = s.directory ∧ (stopAt e s).window = s.window ∧ (stopAt e s).supervisor = s.supervisor := by
  simp [stopAt, endWalk]

/-- A fault (R126). It touches nothing but units, recorder, counters, alerts. -/
@[simp] theorem faultAt_keeps (k : FaultKind) (e : BitVec 6) (s : State) :
    (faultAt k e s).pending = s.pending ∧ (faultAt k e s).inPins = s.inPins ∧ (faultAt k e s).outPins = s.outPins ∧
    (faultAt k e s).straps = s.straps ∧ (faultAt k e s).link = s.link ∧ (faultAt k e s).life = s.life ∧
    (faultAt k e s).power = s.power ∧ (faultAt k e s).episode = s.episode ∧
    (faultAt k e s).resetCause = s.resetCause ∧ (faultAt k e s).resetCount = s.resetCount ∧
    (faultAt k e s).sweep = s.sweep ∧ (faultAt k e s).lastResult = s.lastResult ∧
    (faultAt k e s).locked = s.locked ∧ (faultAt k e s).hold = s.hold ∧ (faultAt k e s).prescaler = s.prescaler ∧
    (faultAt k e s).divider = s.divider ∧ (faultAt k e s).timebase = s.timebase ∧
    (faultAt k e s).permit = s.permit ∧ (faultAt k e s).permitStab = s.permitStab ∧
    (faultAt k e s).inputs = s.inputs ∧ (faultAt k e s).grantMask = s.grantMask ∧
    (faultAt k e s).guardMask = s.guardMask ∧ (faultAt k e s).freeze = s.freeze ∧
    (faultAt k e s).capture = s.capture ∧ (faultAt k e s).directory = s.directory ∧
    (faultAt k e s).window = s.window ∧ (faultAt k e s).supervisor = s.supervisor := by
  unfold faultAt recordFault; split_ifs <;> simp [endWalk]

/-- The advance of the cursor (R124). It touches nothing but units, recorder, counters, alerts, capture. -/
@[simp] theorem advance_keeps (s : State) :
    (advance s).pending = s.pending ∧ (advance s).inPins = s.inPins ∧ (advance s).outPins = s.outPins ∧
    (advance s).straps = s.straps ∧ (advance s).link = s.link ∧ (advance s).life = s.life ∧
    (advance s).power = s.power ∧ (advance s).episode = s.episode ∧ (advance s).resetCause = s.resetCause ∧
    (advance s).resetCount = s.resetCount ∧ (advance s).sweep = s.sweep ∧ (advance s).lastResult = s.lastResult ∧
    (advance s).locked = s.locked ∧ (advance s).hold = s.hold ∧ (advance s).prescaler = s.prescaler ∧
    (advance s).divider = s.divider ∧ (advance s).timebase = s.timebase ∧ (advance s).permit = s.permit ∧
    (advance s).permitStab = s.permitStab ∧ (advance s).inputs = s.inputs ∧ (advance s).grantMask = s.grantMask ∧
    (advance s).guardMask = s.guardMask ∧ (advance s).freeze = s.freeze ∧ (advance s).directory = s.directory ∧
    (advance s).window = s.window ∧ (advance s).supervisor = s.supervisor := by
  unfold advance; dsimp only; (repeat' split) <;> simp

/-- Steps 1 to 5 of sealing (R122). It touches nothing but recorder, counters, alerts, capture. -/
@[simp] theorem writeSeal_keeps (s : State) :
    (writeSeal s).pending = s.pending ∧ (writeSeal s).inPins = s.inPins ∧ (writeSeal s).outPins = s.outPins ∧
    (writeSeal s).straps = s.straps ∧ (writeSeal s).link = s.link ∧ (writeSeal s).life = s.life ∧
    (writeSeal s).power = s.power ∧ (writeSeal s).episode = s.episode ∧ (writeSeal s).resetCause = s.resetCause ∧
    (writeSeal s).resetCount = s.resetCount ∧ (writeSeal s).sweep = s.sweep ∧
    (writeSeal s).lastResult = s.lastResult ∧ (writeSeal s).locked = s.locked ∧ (writeSeal s).hold = s.hold ∧
    (writeSeal s).prescaler = s.prescaler ∧ (writeSeal s).divider = s.divider ∧
    (writeSeal s).timebase = s.timebase ∧ (writeSeal s).permit = s.permit ∧
    (writeSeal s).permitStab = s.permitStab ∧ (writeSeal s).inputs = s.inputs ∧
    (writeSeal s).grantMask = s.grantMask ∧ (writeSeal s).guardMask = s.guardMask ∧ (writeSeal s).units = s.units ∧
    (writeSeal s).freeze = s.freeze ∧ (writeSeal s).directory = s.directory ∧ (writeSeal s).window = s.window ∧
    (writeSeal s).supervisor = s.supervisor := by
  unfold writeSeal; dsimp only; (repeat' split) <;> simp

/-- Sealing (R122). It touches nothing but units, recorder, counters, alerts, capture. -/
@[simp] theorem sealLeaf_keeps (s : State) :
    (sealLeaf s).pending = s.pending ∧ (sealLeaf s).inPins = s.inPins ∧ (sealLeaf s).outPins = s.outPins ∧
    (sealLeaf s).straps = s.straps ∧ (sealLeaf s).link = s.link ∧ (sealLeaf s).life = s.life ∧
    (sealLeaf s).power = s.power ∧ (sealLeaf s).episode = s.episode ∧ (sealLeaf s).resetCause = s.resetCause ∧
    (sealLeaf s).resetCount = s.resetCount ∧ (sealLeaf s).sweep = s.sweep ∧ (sealLeaf s).lastResult = s.lastResult ∧
    (sealLeaf s).locked = s.locked ∧ (sealLeaf s).hold = s.hold ∧ (sealLeaf s).prescaler = s.prescaler ∧
    (sealLeaf s).divider = s.divider ∧ (sealLeaf s).timebase = s.timebase ∧ (sealLeaf s).permit = s.permit ∧
    (sealLeaf s).permitStab = s.permitStab ∧ (sealLeaf s).inputs = s.inputs ∧ (sealLeaf s).grantMask = s.grantMask ∧
    (sealLeaf s).guardMask = s.guardMask ∧ (sealLeaf s).freeze = s.freeze ∧ (sealLeaf s).directory = s.directory ∧
    (sealLeaf s).window = s.window ∧ (sealLeaf s).supervisor = s.supervisor := by
  simp [sealLeaf]

/-- Placing a record (R119). It touches nothing but recorder, counters, alerts, capture. -/
@[simp] theorem placeRecord_keeps (r : Rec) (s : State) :
    (placeRecord r s).pending = s.pending ∧ (placeRecord r s).inPins = s.inPins ∧
    (placeRecord r s).outPins = s.outPins ∧ (placeRecord r s).straps = s.straps ∧ (placeRecord r s).link = s.link ∧
    (placeRecord r s).life = s.life ∧ (placeRecord r s).power = s.power ∧ (placeRecord r s).episode = s.episode ∧
    (placeRecord r s).resetCause = s.resetCause ∧ (placeRecord r s).resetCount = s.resetCount ∧
    (placeRecord r s).sweep = s.sweep ∧ (placeRecord r s).lastResult = s.lastResult ∧
    (placeRecord r s).locked = s.locked ∧ (placeRecord r s).hold = s.hold ∧
    (placeRecord r s).prescaler = s.prescaler ∧ (placeRecord r s).divider = s.divider ∧
    (placeRecord r s).timebase = s.timebase ∧ (placeRecord r s).permit = s.permit ∧
    (placeRecord r s).permitStab = s.permitStab ∧ (placeRecord r s).inputs = s.inputs ∧
    (placeRecord r s).grantMask = s.grantMask ∧ (placeRecord r s).guardMask = s.guardMask ∧
    (placeRecord r s).units = s.units ∧ (placeRecord r s).freeze = s.freeze ∧
    (placeRecord r s).directory = s.directory ∧ (placeRecord r s).window = s.window ∧
    (placeRecord r s).supervisor = s.supervisor := by
  unfold placeRecord; dsimp only; (repeat' split) <;> simp

/-- Dropping a record (R121). It touches nothing but counters, alerts, capture. -/
@[simp] theorem dropRecord_keeps (s : State) :
    (dropRecord s).pending = s.pending ∧ (dropRecord s).inPins = s.inPins ∧ (dropRecord s).outPins = s.outPins ∧
    (dropRecord s).straps = s.straps ∧ (dropRecord s).link = s.link ∧ (dropRecord s).life = s.life ∧
    (dropRecord s).power = s.power ∧ (dropRecord s).episode = s.episode ∧ (dropRecord s).resetCause = s.resetCause ∧
    (dropRecord s).resetCount = s.resetCount ∧ (dropRecord s).sweep = s.sweep ∧
    (dropRecord s).lastResult = s.lastResult ∧ (dropRecord s).locked = s.locked ∧ (dropRecord s).hold = s.hold ∧
    (dropRecord s).prescaler = s.prescaler ∧ (dropRecord s).divider = s.divider ∧
    (dropRecord s).timebase = s.timebase ∧ (dropRecord s).permit = s.permit ∧
    (dropRecord s).permitStab = s.permitStab ∧ (dropRecord s).inputs = s.inputs ∧
    (dropRecord s).grantMask = s.grantMask ∧ (dropRecord s).guardMask = s.guardMask ∧
    (dropRecord s).units = s.units ∧ (dropRecord s).freeze = s.freeze ∧ (dropRecord s).recorder = s.recorder ∧
    (dropRecord s).directory = s.directory ∧ (dropRecord s).window = s.window ∧
    (dropRecord s).supervisor = s.supervisor := by
  simp [dropRecord]

/-- One record handled (R118). It touches nothing but units, recorder, counters, alerts, capture. -/
@[simp] theorem handleRecord_keeps (r : Rec) (s : State) :
    (handleRecord r s).pending = s.pending ∧ (handleRecord r s).inPins = s.inPins ∧
    (handleRecord r s).outPins = s.outPins ∧ (handleRecord r s).straps = s.straps ∧
    (handleRecord r s).link = s.link ∧ (handleRecord r s).life = s.life ∧ (handleRecord r s).power = s.power ∧
    (handleRecord r s).episode = s.episode ∧ (handleRecord r s).resetCause = s.resetCause ∧
    (handleRecord r s).resetCount = s.resetCount ∧ (handleRecord r s).sweep = s.sweep ∧
    (handleRecord r s).lastResult = s.lastResult ∧ (handleRecord r s).locked = s.locked ∧
    (handleRecord r s).hold = s.hold ∧ (handleRecord r s).prescaler = s.prescaler ∧
    (handleRecord r s).divider = s.divider ∧ (handleRecord r s).timebase = s.timebase ∧
    (handleRecord r s).permit = s.permit ∧ (handleRecord r s).permitStab = s.permitStab ∧
    (handleRecord r s).inputs = s.inputs ∧ (handleRecord r s).grantMask = s.grantMask ∧
    (handleRecord r s).guardMask = s.guardMask ∧ (handleRecord r s).freeze = s.freeze ∧
    (handleRecord r s).directory = s.directory ∧ (handleRecord r s).window = s.window ∧
    (handleRecord r s).supervisor = s.supervisor := by
  unfold handleRecord; dsimp only; (repeat' split) <;> simp

/-- The drain, over the records it has still to take (R118). It touches nothing but units, recorder, counters, alerts, capture. -/
@[simp] theorem drainList_keeps (l : List Rec) (s : State) :
    (drainList l s).pending = s.pending ∧ (drainList l s).inPins = s.inPins ∧ (drainList l s).outPins = s.outPins ∧
    (drainList l s).straps = s.straps ∧ (drainList l s).link = s.link ∧ (drainList l s).life = s.life ∧
    (drainList l s).power = s.power ∧ (drainList l s).episode = s.episode ∧
    (drainList l s).resetCause = s.resetCause ∧ (drainList l s).resetCount = s.resetCount ∧
    (drainList l s).sweep = s.sweep ∧ (drainList l s).lastResult = s.lastResult ∧
    (drainList l s).locked = s.locked ∧ (drainList l s).hold = s.hold ∧ (drainList l s).prescaler = s.prescaler ∧
    (drainList l s).divider = s.divider ∧ (drainList l s).timebase = s.timebase ∧
    (drainList l s).permit = s.permit ∧ (drainList l s).permitStab = s.permitStab ∧
    (drainList l s).inputs = s.inputs ∧ (drainList l s).grantMask = s.grantMask ∧
    (drainList l s).guardMask = s.guardMask ∧ (drainList l s).freeze = s.freeze ∧
    (drainList l s).directory = s.directory ∧ (drainList l s).window = s.window ∧
    (drainList l s).supervisor = s.supervisor := by
  induction l generalizing s with
  | nil => simp [drainList]
  | cons r l ih => unfold drainList; dsimp only; split_ifs <;> simp [ih]

/-- The drain (R110, R118). It touches nothing but units, recorder, counters, alerts, capture. -/
@[simp] theorem drain_keeps (s : State) :
    (drain s).pending = s.pending ∧ (drain s).inPins = s.inPins ∧ (drain s).outPins = s.outPins ∧
    (drain s).straps = s.straps ∧ (drain s).link = s.link ∧ (drain s).life = s.life ∧ (drain s).power = s.power ∧
    (drain s).episode = s.episode ∧ (drain s).resetCause = s.resetCause ∧ (drain s).resetCount = s.resetCount ∧
    (drain s).sweep = s.sweep ∧ (drain s).lastResult = s.lastResult ∧ (drain s).locked = s.locked ∧
    (drain s).hold = s.hold ∧ (drain s).prescaler = s.prescaler ∧ (drain s).divider = s.divider ∧
    (drain s).timebase = s.timebase ∧ (drain s).permit = s.permit ∧ (drain s).permitStab = s.permitStab ∧
    (drain s).inputs = s.inputs ∧ (drain s).grantMask = s.grantMask ∧ (drain s).guardMask = s.guardMask ∧
    (drain s).freeze = s.freeze ∧ (drain s).directory = s.directory ∧ (drain s).window = s.window ∧
    (drain s).supervisor = s.supervisor := by
  simp [drain]

/-- The recorder leaves Ready or Running for good (R109, R64). It touches nothing but recorder, counters, alerts. -/
@[simp] theorem recorderStops_keeps (s : State) :
    (recorderStops s).pending = s.pending ∧ (recorderStops s).inPins = s.inPins ∧
    (recorderStops s).outPins = s.outPins ∧ (recorderStops s).straps = s.straps ∧ (recorderStops s).link = s.link ∧
    (recorderStops s).life = s.life ∧ (recorderStops s).power = s.power ∧ (recorderStops s).episode = s.episode ∧
    (recorderStops s).resetCause = s.resetCause ∧ (recorderStops s).resetCount = s.resetCount ∧
    (recorderStops s).sweep = s.sweep ∧ (recorderStops s).lastResult = s.lastResult ∧
    (recorderStops s).locked = s.locked ∧ (recorderStops s).hold = s.hold ∧
    (recorderStops s).prescaler = s.prescaler ∧ (recorderStops s).divider = s.divider ∧
    (recorderStops s).timebase = s.timebase ∧ (recorderStops s).permit = s.permit ∧
    (recorderStops s).permitStab = s.permitStab ∧ (recorderStops s).inputs = s.inputs ∧
    (recorderStops s).grantMask = s.grantMask ∧ (recorderStops s).guardMask = s.guardMask ∧
    (recorderStops s).units = s.units ∧ (recorderStops s).freeze = s.freeze ∧
    (recorderStops s).capture = s.capture ∧ (recorderStops s).directory = s.directory ∧
    (recorderStops s).window = s.window ∧ (recorderStops s).supervisor = s.supervisor := by
  simp [recorderStops]

/-- The recorder leaves Off (R107). It touches nothing but units, recorder, capture. -/
@[simp] theorem recorderStarts_keeps (e : BitVec 6) (t : UnitState) (s : State) :
    (recorderStarts e t s).pending = s.pending ∧ (recorderStarts e t s).inPins = s.inPins ∧
    (recorderStarts e t s).outPins = s.outPins ∧ (recorderStarts e t s).straps = s.straps ∧
    (recorderStarts e t s).link = s.link ∧ (recorderStarts e t s).life = s.life ∧
    (recorderStarts e t s).power = s.power ∧ (recorderStarts e t s).episode = s.episode ∧
    (recorderStarts e t s).resetCause = s.resetCause ∧ (recorderStarts e t s).resetCount = s.resetCount ∧
    (recorderStarts e t s).sweep = s.sweep ∧ (recorderStarts e t s).lastResult = s.lastResult ∧
    (recorderStarts e t s).locked = s.locked ∧ (recorderStarts e t s).hold = s.hold ∧
    (recorderStarts e t s).prescaler = s.prescaler ∧ (recorderStarts e t s).divider = s.divider ∧
    (recorderStarts e t s).timebase = s.timebase ∧ (recorderStarts e t s).permit = s.permit ∧
    (recorderStarts e t s).permitStab = s.permitStab ∧ (recorderStarts e t s).inputs = s.inputs ∧
    (recorderStarts e t s).grantMask = s.grantMask ∧ (recorderStarts e t s).guardMask = s.guardMask ∧
    (recorderStarts e t s).counters = s.counters ∧ (recorderStarts e t s).freeze = s.freeze ∧
    (recorderStarts e t s).directory = s.directory ∧ (recorderStarts e t s).window = s.window ∧
    (recorderStarts e t s).alerts = s.alerts ∧ (recorderStarts e t s).supervisor = s.supervisor := by
  simp [recorderStarts]

/-- A hold ends (R36). It touches nothing but hold, recorder, counters, alerts. -/
@[simp] theorem endHold_keeps (s : State) :
    (endHold s).pending = s.pending ∧ (endHold s).inPins = s.inPins ∧ (endHold s).outPins = s.outPins ∧
    (endHold s).straps = s.straps ∧ (endHold s).link = s.link ∧ (endHold s).life = s.life ∧
    (endHold s).power = s.power ∧ (endHold s).episode = s.episode ∧ (endHold s).resetCause = s.resetCause ∧
    (endHold s).resetCount = s.resetCount ∧ (endHold s).sweep = s.sweep ∧ (endHold s).lastResult = s.lastResult ∧
    (endHold s).locked = s.locked ∧ (endHold s).prescaler = s.prescaler ∧ (endHold s).divider = s.divider ∧
    (endHold s).timebase = s.timebase ∧ (endHold s).permit = s.permit ∧ (endHold s).permitStab = s.permitStab ∧
    (endHold s).inputs = s.inputs ∧ (endHold s).grantMask = s.grantMask ∧ (endHold s).guardMask = s.guardMask ∧
    (endHold s).units = s.units ∧ (endHold s).freeze = s.freeze ∧ (endHold s).capture = s.capture ∧
    (endHold s).directory = s.directory ∧ (endHold s).window = s.window ∧ (endHold s).supervisor = s.supervisor := by
  simp [endHold]

/-- Stages 5 and 6 of R22. It touches nothing but hold, units, recorder, counters, alerts, capture. -/
@[simp] theorem holdAccounting_keeps (s : State) :
    (holdAccounting s).pending = s.pending ∧ (holdAccounting s).inPins = s.inPins ∧
    (holdAccounting s).outPins = s.outPins ∧ (holdAccounting s).straps = s.straps ∧
    (holdAccounting s).link = s.link ∧ (holdAccounting s).life = s.life ∧ (holdAccounting s).power = s.power ∧
    (holdAccounting s).episode = s.episode ∧ (holdAccounting s).resetCause = s.resetCause ∧
    (holdAccounting s).resetCount = s.resetCount ∧ (holdAccounting s).sweep = s.sweep ∧
    (holdAccounting s).lastResult = s.lastResult ∧ (holdAccounting s).locked = s.locked ∧
    (holdAccounting s).prescaler = s.prescaler ∧ (holdAccounting s).divider = s.divider ∧
    (holdAccounting s).timebase = s.timebase ∧ (holdAccounting s).permit = s.permit ∧
    (holdAccounting s).permitStab = s.permitStab ∧ (holdAccounting s).inputs = s.inputs ∧
    (holdAccounting s).grantMask = s.grantMask ∧ (holdAccounting s).guardMask = s.guardMask ∧
    (holdAccounting s).freeze = s.freeze ∧ (holdAccounting s).directory = s.directory ∧
    (holdAccounting s).window = s.window ∧ (holdAccounting s).supervisor = s.supervisor := by
  unfold holdAccounting; dsimp only; (repeat' split) <;> simp

/-- Stages 3 to 7 of R22. It touches nothing but lastResult, outPins, hold, units, recorder, counters, alerts, capture. -/
@[simp] theorem finishCommand_keeps (h : Bool) (r : Result) (s : State) :
    (finishCommand h r s).pending = s.pending ∧ (finishCommand h r s).inPins = s.inPins ∧
    (finishCommand h r s).straps = s.straps ∧ (finishCommand h r s).link = s.link ∧
    (finishCommand h r s).life = s.life ∧ (finishCommand h r s).power = s.power ∧
    (finishCommand h r s).episode = s.episode ∧ (finishCommand h r s).resetCause = s.resetCause ∧
    (finishCommand h r s).resetCount = s.resetCount ∧ (finishCommand h r s).sweep = s.sweep ∧
    (finishCommand h r s).locked = s.locked ∧ (finishCommand h r s).prescaler = s.prescaler ∧
    (finishCommand h r s).divider = s.divider ∧ (finishCommand h r s).timebase = s.timebase ∧
    (finishCommand h r s).permit = s.permit ∧ (finishCommand h r s).permitStab = s.permitStab ∧
    (finishCommand h r s).inputs = s.inputs ∧ (finishCommand h r s).grantMask = s.grantMask ∧
    (finishCommand h r s).guardMask = s.guardMask ∧ (finishCommand h r s).freeze = s.freeze ∧
    (finishCommand h r s).directory = s.directory ∧ (finishCommand h r s).window = s.window ∧
    (finishCommand h r s).supervisor = s.supervisor := by
  unfold finishCommand; dsimp only; (repeat' split) <;> simp

/-- A framing error (R14). It touches nothing but lastResult, link, counters, alerts, outPins. -/
@[simp] theorem framingError_keeps (s : State) :
    (framingError s).pending = s.pending ∧ (framingError s).inPins = s.inPins ∧ (framingError s).straps = s.straps ∧
    (framingError s).life = s.life ∧ (framingError s).power = s.power ∧ (framingError s).episode = s.episode ∧
    (framingError s).resetCause = s.resetCause ∧ (framingError s).resetCount = s.resetCount ∧
    (framingError s).sweep = s.sweep ∧ (framingError s).locked = s.locked ∧ (framingError s).hold = s.hold ∧
    (framingError s).prescaler = s.prescaler ∧ (framingError s).divider = s.divider ∧
    (framingError s).timebase = s.timebase ∧ (framingError s).permit = s.permit ∧
    (framingError s).permitStab = s.permitStab ∧ (framingError s).inputs = s.inputs ∧
    (framingError s).grantMask = s.grantMask ∧ (framingError s).guardMask = s.guardMask ∧
    (framingError s).units = s.units ∧ (framingError s).freeze = s.freeze ∧ (framingError s).recorder = s.recorder ∧
    (framingError s).capture = s.capture ∧ (framingError s).directory = s.directory ∧
    (framingError s).window = s.window ∧ (framingError s).supervisor = s.supervisor := by
  simp [framingError]

/-- The master's not-acknowledge (R6). It touches nothing but link. -/
@[simp] theorem notAcknowledged_keeps (s : State) :
    (notAcknowledged s).pending = s.pending ∧ (notAcknowledged s).inPins = s.inPins ∧
    (notAcknowledged s).outPins = s.outPins ∧ (notAcknowledged s).straps = s.straps ∧
    (notAcknowledged s).life = s.life ∧ (notAcknowledged s).power = s.power ∧
    (notAcknowledged s).episode = s.episode ∧ (notAcknowledged s).resetCause = s.resetCause ∧
    (notAcknowledged s).resetCount = s.resetCount ∧ (notAcknowledged s).sweep = s.sweep ∧
    (notAcknowledged s).lastResult = s.lastResult ∧ (notAcknowledged s).locked = s.locked ∧
    (notAcknowledged s).hold = s.hold ∧ (notAcknowledged s).prescaler = s.prescaler ∧
    (notAcknowledged s).divider = s.divider ∧ (notAcknowledged s).timebase = s.timebase ∧
    (notAcknowledged s).permit = s.permit ∧ (notAcknowledged s).permitStab = s.permitStab ∧
    (notAcknowledged s).inputs = s.inputs ∧ (notAcknowledged s).grantMask = s.grantMask ∧
    (notAcknowledged s).guardMask = s.guardMask ∧ (notAcknowledged s).units = s.units ∧
    (notAcknowledged s).counters = s.counters ∧ (notAcknowledged s).freeze = s.freeze ∧
    (notAcknowledged s).recorder = s.recorder ∧ (notAcknowledged s).capture = s.capture ∧
    (notAcknowledged s).directory = s.directory ∧ (notAcknowledged s).window = s.window ∧
    (notAcknowledged s).alerts = s.alerts ∧ (notAcknowledged s).supervisor = s.supervisor := by
  unfold notAcknowledged; (repeat' split) <;> simp

/-- A byte on the line (R3, R5). It touches nothing but link. -/
@[simp] theorem lineAtByte_keeps (s : State) :
    (lineAtByte s).pending = s.pending ∧ (lineAtByte s).inPins = s.inPins ∧ (lineAtByte s).outPins = s.outPins ∧
    (lineAtByte s).straps = s.straps ∧ (lineAtByte s).life = s.life ∧ (lineAtByte s).power = s.power ∧
    (lineAtByte s).episode = s.episode ∧ (lineAtByte s).resetCause = s.resetCause ∧
    (lineAtByte s).resetCount = s.resetCount ∧ (lineAtByte s).sweep = s.sweep ∧
    (lineAtByte s).lastResult = s.lastResult ∧ (lineAtByte s).locked = s.locked ∧ (lineAtByte s).hold = s.hold ∧
    (lineAtByte s).prescaler = s.prescaler ∧ (lineAtByte s).divider = s.divider ∧
    (lineAtByte s).timebase = s.timebase ∧ (lineAtByte s).permit = s.permit ∧
    (lineAtByte s).permitStab = s.permitStab ∧ (lineAtByte s).inputs = s.inputs ∧
    (lineAtByte s).grantMask = s.grantMask ∧ (lineAtByte s).guardMask = s.guardMask ∧
    (lineAtByte s).units = s.units ∧ (lineAtByte s).counters = s.counters ∧ (lineAtByte s).freeze = s.freeze ∧
    (lineAtByte s).recorder = s.recorder ∧ (lineAtByte s).capture = s.capture ∧
    (lineAtByte s).directory = s.directory ∧ (lineAtByte s).window = s.window ∧ (lineAtByte s).alerts = s.alerts ∧
    (lineAtByte s).supervisor = s.supervisor := by
  by_cases h : s.straps.i2c = true
  · simp [lineAtByte, h]
  · cases hp : s.link.parser <;> simp [lineAtByte, h, hp]

/-- What else a window payload byte does (R136, R139). It touches nothing but lastResult, window, counters, alerts, outPins. -/
@[simp] theorem windowDelivers_keeps (s : State) :
    (windowDelivers s).pending = s.pending ∧ (windowDelivers s).inPins = s.inPins ∧
    (windowDelivers s).straps = s.straps ∧ (windowDelivers s).link = s.link ∧ (windowDelivers s).life = s.life ∧
    (windowDelivers s).power = s.power ∧ (windowDelivers s).episode = s.episode ∧
    (windowDelivers s).resetCause = s.resetCause ∧ (windowDelivers s).resetCount = s.resetCount ∧
    (windowDelivers s).sweep = s.sweep ∧ (windowDelivers s).locked = s.locked ∧ (windowDelivers s).hold = s.hold ∧
    (windowDelivers s).prescaler = s.prescaler ∧ (windowDelivers s).divider = s.divider ∧
    (windowDelivers s).timebase = s.timebase ∧ (windowDelivers s).permit = s.permit ∧
    (windowDelivers s).permitStab = s.permitStab ∧ (windowDelivers s).inputs = s.inputs ∧
    (windowDelivers s).grantMask = s.grantMask ∧ (windowDelivers s).guardMask = s.guardMask ∧
    (windowDelivers s).units = s.units ∧ (windowDelivers s).freeze = s.freeze ∧
    (windowDelivers s).recorder = s.recorder ∧ (windowDelivers s).capture = s.capture ∧
    (windowDelivers s).directory = s.directory ∧ (windowDelivers s).supervisor = s.supervisor := by
  unfold windowDelivers; (repeat' split) <;> simp

/-- A truncation (R15). It touches nothing but lastResult, counters, alerts. -/
@[simp] theorem truncate_keeps (s : State) :
    (truncate s).pending = s.pending ∧ (truncate s).inPins = s.inPins ∧ (truncate s).outPins = s.outPins ∧
    (truncate s).straps = s.straps ∧ (truncate s).link = s.link ∧ (truncate s).life = s.life ∧
    (truncate s).power = s.power ∧ (truncate s).episode = s.episode ∧ (truncate s).resetCause = s.resetCause ∧
    (truncate s).resetCount = s.resetCount ∧ (truncate s).sweep = s.sweep ∧ (truncate s).locked = s.locked ∧
    (truncate s).hold = s.hold ∧ (truncate s).prescaler = s.prescaler ∧ (truncate s).divider = s.divider ∧
    (truncate s).timebase = s.timebase ∧ (truncate s).permit = s.permit ∧ (truncate s).permitStab = s.permitStab ∧
    (truncate s).inputs = s.inputs ∧ (truncate s).grantMask = s.grantMask ∧ (truncate s).guardMask = s.guardMask ∧
    (truncate s).units = s.units ∧ (truncate s).freeze = s.freeze ∧ (truncate s).recorder = s.recorder ∧
    (truncate s).capture = s.capture ∧ (truncate s).directory = s.directory ∧ (truncate s).window = s.window ∧
    (truncate s).supervisor = s.supervisor := by
  simp [truncate]

/-- A bank's part of an evaluation of G (R62). It touches nothing but units, counters. -/
@[simp] theorem regrantBank_keeps (b : Bank) (s : State) :
    (regrantBank b s).pending = s.pending ∧ (regrantBank b s).inPins = s.inPins ∧
    (regrantBank b s).outPins = s.outPins ∧ (regrantBank b s).straps = s.straps ∧ (regrantBank b s).link = s.link ∧
    (regrantBank b s).life = s.life ∧ (regrantBank b s).power = s.power ∧ (regrantBank b s).episode = s.episode ∧
    (regrantBank b s).resetCause = s.resetCause ∧ (regrantBank b s).resetCount = s.resetCount ∧
    (regrantBank b s).sweep = s.sweep ∧ (regrantBank b s).lastResult = s.lastResult ∧
    (regrantBank b s).locked = s.locked ∧ (regrantBank b s).hold = s.hold ∧
    (regrantBank b s).prescaler = s.prescaler ∧ (regrantBank b s).divider = s.divider ∧
    (regrantBank b s).timebase = s.timebase ∧ (regrantBank b s).permit = s.permit ∧
    (regrantBank b s).permitStab = s.permitStab ∧ (regrantBank b s).inputs = s.inputs ∧
    (regrantBank b s).grantMask = s.grantMask ∧ (regrantBank b s).guardMask = s.guardMask ∧
    (regrantBank b s).freeze = s.freeze ∧ (regrantBank b s).recorder = s.recorder ∧
    (regrantBank b s).capture = s.capture ∧ (regrantBank b s).directory = s.directory ∧
    (regrantBank b s).window = s.window ∧ (regrantBank b s).alerts = s.alerts ∧
    (regrantBank b s).supervisor = s.supervisor := by
  unfold regrantBank; (repeat' split) <;> simp

/-- The recorder's part of an evaluation of G (R62). It touches nothing but units, recorder, counters, alerts. -/
@[simp] theorem regrantRecorder_keeps (s : State) :
    (regrantRecorder s).pending = s.pending ∧ (regrantRecorder s).inPins = s.inPins ∧
    (regrantRecorder s).outPins = s.outPins ∧ (regrantRecorder s).straps = s.straps ∧
    (regrantRecorder s).link = s.link ∧ (regrantRecorder s).life = s.life ∧ (regrantRecorder s).power = s.power ∧
    (regrantRecorder s).episode = s.episode ∧ (regrantRecorder s).resetCause = s.resetCause ∧
    (regrantRecorder s).resetCount = s.resetCount ∧ (regrantRecorder s).sweep = s.sweep ∧
    (regrantRecorder s).lastResult = s.lastResult ∧ (regrantRecorder s).locked = s.locked ∧
    (regrantRecorder s).hold = s.hold ∧ (regrantRecorder s).prescaler = s.prescaler ∧
    (regrantRecorder s).divider = s.divider ∧ (regrantRecorder s).timebase = s.timebase ∧
    (regrantRecorder s).permit = s.permit ∧ (regrantRecorder s).permitStab = s.permitStab ∧
    (regrantRecorder s).inputs = s.inputs ∧ (regrantRecorder s).grantMask = s.grantMask ∧
    (regrantRecorder s).guardMask = s.guardMask ∧ (regrantRecorder s).freeze = s.freeze ∧
    (regrantRecorder s).capture = s.capture ∧ (regrantRecorder s).directory = s.directory ∧
    (regrantRecorder s).window = s.window ∧ (regrantRecorder s).supervisor = s.supervisor := by
  unfold regrantRecorder; dsimp only; (repeat' split) <;> simp

/-- An evaluation of G (R62). It touches nothing but units, recorder, counters, alerts. -/
@[simp] theorem evaluateGrants_keeps (s : State) :
    (evaluateGrants s).pending = s.pending ∧ (evaluateGrants s).inPins = s.inPins ∧
    (evaluateGrants s).outPins = s.outPins ∧ (evaluateGrants s).straps = s.straps ∧
    (evaluateGrants s).link = s.link ∧ (evaluateGrants s).life = s.life ∧ (evaluateGrants s).power = s.power ∧
    (evaluateGrants s).episode = s.episode ∧ (evaluateGrants s).resetCause = s.resetCause ∧
    (evaluateGrants s).resetCount = s.resetCount ∧ (evaluateGrants s).sweep = s.sweep ∧
    (evaluateGrants s).lastResult = s.lastResult ∧ (evaluateGrants s).locked = s.locked ∧
    (evaluateGrants s).hold = s.hold ∧ (evaluateGrants s).prescaler = s.prescaler ∧
    (evaluateGrants s).divider = s.divider ∧ (evaluateGrants s).timebase = s.timebase ∧
    (evaluateGrants s).permit = s.permit ∧ (evaluateGrants s).permitStab = s.permitStab ∧
    (evaluateGrants s).inputs = s.inputs ∧ (evaluateGrants s).grantMask = s.grantMask ∧
    (evaluateGrants s).guardMask = s.guardMask ∧ (evaluateGrants s).freeze = s.freeze ∧
    (evaluateGrants s).capture = s.capture ∧ (evaluateGrants s).directory = s.directory ∧
    (evaluateGrants s).window = s.window ∧ (evaluateGrants s).supervisor = s.supervisor := by
  unfold evaluateGrants clearWrapCause; dsimp only; (repeat' split) <;> simp

/-- Step 2 of a tick (R48). It touches nothing but permit, permitStab, units, recorder, counters, alerts. -/
@[simp] theorem permitStep_keeps (p : Bool) (s : State) :
    (permitStep p s).pending = s.pending ∧ (permitStep p s).inPins = s.inPins ∧
    (permitStep p s).outPins = s.outPins ∧ (permitStep p s).straps = s.straps ∧ (permitStep p s).link = s.link ∧
    (permitStep p s).life = s.life ∧ (permitStep p s).power = s.power ∧ (permitStep p s).episode = s.episode ∧
    (permitStep p s).resetCause = s.resetCause ∧ (permitStep p s).resetCount = s.resetCount ∧
    (permitStep p s).sweep = s.sweep ∧ (permitStep p s).lastResult = s.lastResult ∧
    (permitStep p s).locked = s.locked ∧ (permitStep p s).hold = s.hold ∧ (permitStep p s).prescaler = s.prescaler ∧
    (permitStep p s).divider = s.divider ∧ (permitStep p s).timebase = s.timebase ∧
    (permitStep p s).inputs = s.inputs ∧ (permitStep p s).grantMask = s.grantMask ∧
    (permitStep p s).guardMask = s.guardMask ∧ (permitStep p s).freeze = s.freeze ∧
    (permitStep p s).capture = s.capture ∧ (permitStep p s).directory = s.directory ∧
    (permitStep p s).window = s.window ∧ (permitStep p s).supervisor = s.supervisor := by
  unfold permitStep; (repeat' split) <;> simp

/-- A SUPERVISOR record offered (R162). It touches nothing but recorder, counters, alerts. -/
@[simp] theorem offerSupervisor_keeps (f : Bool) (s : State) :
    (offerSupervisor f s).pending = s.pending ∧ (offerSupervisor f s).inPins = s.inPins ∧
    (offerSupervisor f s).outPins = s.outPins ∧ (offerSupervisor f s).straps = s.straps ∧
    (offerSupervisor f s).link = s.link ∧ (offerSupervisor f s).life = s.life ∧
    (offerSupervisor f s).power = s.power ∧ (offerSupervisor f s).episode = s.episode ∧
    (offerSupervisor f s).resetCause = s.resetCause ∧ (offerSupervisor f s).resetCount = s.resetCount ∧
    (offerSupervisor f s).sweep = s.sweep ∧ (offerSupervisor f s).lastResult = s.lastResult ∧
    (offerSupervisor f s).locked = s.locked ∧ (offerSupervisor f s).hold = s.hold ∧
    (offerSupervisor f s).prescaler = s.prescaler ∧ (offerSupervisor f s).divider = s.divider ∧
    (offerSupervisor f s).timebase = s.timebase ∧ (offerSupervisor f s).permit = s.permit ∧
    (offerSupervisor f s).permitStab = s.permitStab ∧ (offerSupervisor f s).inputs = s.inputs ∧
    (offerSupervisor f s).grantMask = s.grantMask ∧ (offerSupervisor f s).guardMask = s.guardMask ∧
    (offerSupervisor f s).units = s.units ∧ (offerSupervisor f s).freeze = s.freeze ∧
    (offerSupervisor f s).capture = s.capture ∧ (offerSupervisor f s).directory = s.directory ∧
    (offerSupervisor f s).window = s.window ∧ (offerSupervisor f s).supervisor = s.supervisor := by
  unfold offerSupervisor; (repeat' split) <;> simp

/-- Step 3 of a tick (R159 to R161). It touches nothing but supervisor, outPins, recorder, counters, alerts. -/
@[simp] theorem supervisorStep_keeps (s : State) :
    (supervisorStep s).pending = s.pending ∧ (supervisorStep s).inPins = s.inPins ∧
    (supervisorStep s).straps = s.straps ∧ (supervisorStep s).link = s.link ∧ (supervisorStep s).life = s.life ∧
    (supervisorStep s).power = s.power ∧ (supervisorStep s).episode = s.episode ∧
    (supervisorStep s).resetCause = s.resetCause ∧ (supervisorStep s).resetCount = s.resetCount ∧
    (supervisorStep s).sweep = s.sweep ∧ (supervisorStep s).lastResult = s.lastResult ∧
    (supervisorStep s).locked = s.locked ∧ (supervisorStep s).hold = s.hold ∧
    (supervisorStep s).prescaler = s.prescaler ∧ (supervisorStep s).divider = s.divider ∧
    (supervisorStep s).timebase = s.timebase ∧ (supervisorStep s).permit = s.permit ∧
    (supervisorStep s).permitStab = s.permitStab ∧ (supervisorStep s).inputs = s.inputs ∧
    (supervisorStep s).grantMask = s.grantMask ∧ (supervisorStep s).guardMask = s.guardMask ∧
    (supervisorStep s).units = s.units ∧ (supervisorStep s).freeze = s.freeze ∧
    (supervisorStep s).capture = s.capture ∧ (supervisorStep s).directory = s.directory ∧
    (supervisorStep s).window = s.window := by
  unfold supervisorStep warnHost fireHost pulseStep; dsimp only; (repeat' split) <;> simp

/-- One conditioner at step 4 of a tick (R51). It touches nothing but inputs, recorder, counters, alerts. -/
@[simp] theorem inputStep_keeps (ev : Half) (n : Fin 16) (s : State) :
    (inputStep ev n s).pending = s.pending ∧ (inputStep ev n s).inPins = s.inPins ∧
    (inputStep ev n s).outPins = s.outPins ∧ (inputStep ev n s).straps = s.straps ∧
    (inputStep ev n s).link = s.link ∧ (inputStep ev n s).life = s.life ∧ (inputStep ev n s).power = s.power ∧
    (inputStep ev n s).episode = s.episode ∧ (inputStep ev n s).resetCause = s.resetCause ∧
    (inputStep ev n s).resetCount = s.resetCount ∧ (inputStep ev n s).sweep = s.sweep ∧
    (inputStep ev n s).lastResult = s.lastResult ∧ (inputStep ev n s).locked = s.locked ∧
    (inputStep ev n s).hold = s.hold ∧ (inputStep ev n s).prescaler = s.prescaler ∧
    (inputStep ev n s).divider = s.divider ∧ (inputStep ev n s).timebase = s.timebase ∧
    (inputStep ev n s).permit = s.permit ∧ (inputStep ev n s).permitStab = s.permitStab ∧
    (inputStep ev n s).grantMask = s.grantMask ∧ (inputStep ev n s).guardMask = s.guardMask ∧
    (inputStep ev n s).units = s.units ∧ (inputStep ev n s).freeze = s.freeze ∧
    (inputStep ev n s).capture = s.capture ∧ (inputStep ev n s).directory = s.directory ∧
    (inputStep ev n s).window = s.window ∧ (inputStep ev n s).supervisor = s.supervisor := by
  unfold inputStep qualifiedEdge offerEvent; dsimp only; (repeat' split) <;> simp

/-- Step 4 of a tick (R51). It touches nothing but inputs, recorder, counters, alerts. -/
@[simp] theorem inputsStep_keeps (ev : Half) (s : State) :
    (inputsStep ev s).pending = s.pending ∧ (inputsStep ev s).inPins = s.inPins ∧
    (inputsStep ev s).outPins = s.outPins ∧ (inputsStep ev s).straps = s.straps ∧ (inputsStep ev s).link = s.link ∧
    (inputsStep ev s).life = s.life ∧ (inputsStep ev s).power = s.power ∧ (inputsStep ev s).episode = s.episode ∧
    (inputsStep ev s).resetCause = s.resetCause ∧ (inputsStep ev s).resetCount = s.resetCount ∧
    (inputsStep ev s).sweep = s.sweep ∧ (inputsStep ev s).lastResult = s.lastResult ∧
    (inputsStep ev s).locked = s.locked ∧ (inputsStep ev s).hold = s.hold ∧
    (inputsStep ev s).prescaler = s.prescaler ∧ (inputsStep ev s).divider = s.divider ∧
    (inputsStep ev s).timebase = s.timebase ∧ (inputsStep ev s).permit = s.permit ∧
    (inputsStep ev s).permitStab = s.permitStab ∧ (inputsStep ev s).grantMask = s.grantMask ∧
    (inputsStep ev s).guardMask = s.guardMask ∧ (inputsStep ev s).units = s.units ∧
    (inputsStep ev s).freeze = s.freeze ∧ (inputsStep ev s).capture = s.capture ∧
    (inputsStep ev s).directory = s.directory ∧ (inputsStep ev s).window = s.window ∧
    (inputsStep ev s).supervisor = s.supervisor := by
  refine ⟨?_, ?_, ?_, ?_, ?_, ?_, ?_, ?_, ?_, ?_, ?_, ?_, ?_, ?_, ?_, ?_, ?_, ?_, ?_, ?_, ?_, ?_, ?_, ?_, ?_, ?_, ?_⟩ <;>
    exact foldl_keeps _ _ (fun t n => by simp) _ _

/-- Step 5 of a tick (R78). It touches nothing but counters, alerts. -/
@[simp] theorem dwellStep_keeps (s : State) :
    (dwellStep s).pending = s.pending ∧ (dwellStep s).inPins = s.inPins ∧ (dwellStep s).outPins = s.outPins ∧
    (dwellStep s).straps = s.straps ∧ (dwellStep s).link = s.link ∧ (dwellStep s).life = s.life ∧
    (dwellStep s).power = s.power ∧ (dwellStep s).episode = s.episode ∧ (dwellStep s).resetCause = s.resetCause ∧
    (dwellStep s).resetCount = s.resetCount ∧ (dwellStep s).sweep = s.sweep ∧
    (dwellStep s).lastResult = s.lastResult ∧ (dwellStep s).locked = s.locked ∧ (dwellStep s).hold = s.hold ∧
    (dwellStep s).prescaler = s.prescaler ∧ (dwellStep s).divider = s.divider ∧
    (dwellStep s).timebase = s.timebase ∧ (dwellStep s).permit = s.permit ∧
    (dwellStep s).permitStab = s.permitStab ∧ (dwellStep s).inputs = s.inputs ∧
    (dwellStep s).grantMask = s.grantMask ∧ (dwellStep s).guardMask = s.guardMask ∧ (dwellStep s).units = s.units ∧
    (dwellStep s).freeze = s.freeze ∧ (dwellStep s).recorder = s.recorder ∧ (dwellStep s).capture = s.capture ∧
    (dwellStep s).directory = s.directory ∧ (dwellStep s).window = s.window ∧
    (dwellStep s).supervisor = s.supervisor := by
  refine ⟨?_, ?_, ?_, ?_, ?_, ?_, ?_, ?_, ?_, ?_, ?_, ?_, ?_, ?_, ?_, ?_, ?_, ?_, ?_, ?_, ?_, ?_, ?_, ?_, ?_, ?_, ?_, ?_, ?_⟩ <;>
    exact foldl_keeps _ _ (fun t n => by split_ifs <;> simp) _ _

/-- Step 7 of a tick (R35). It touches nothing but hold, recorder, counters, alerts. -/
@[simp] theorem holdStep_keeps (s : State) :
    (holdStep s).pending = s.pending ∧ (holdStep s).inPins = s.inPins ∧ (holdStep s).outPins = s.outPins ∧
    (holdStep s).straps = s.straps ∧ (holdStep s).link = s.link ∧ (holdStep s).life = s.life ∧
    (holdStep s).power = s.power ∧ (holdStep s).episode = s.episode ∧ (holdStep s).resetCause = s.resetCause ∧
    (holdStep s).resetCount = s.resetCount ∧ (holdStep s).sweep = s.sweep ∧ (holdStep s).lastResult = s.lastResult ∧
    (holdStep s).locked = s.locked ∧ (holdStep s).prescaler = s.prescaler ∧ (holdStep s).divider = s.divider ∧
    (holdStep s).timebase = s.timebase ∧ (holdStep s).permit = s.permit ∧ (holdStep s).permitStab = s.permitStab ∧
    (holdStep s).inputs = s.inputs ∧ (holdStep s).grantMask = s.grantMask ∧ (holdStep s).guardMask = s.guardMask ∧
    (holdStep s).units = s.units ∧ (holdStep s).freeze = s.freeze ∧ (holdStep s).capture = s.capture ∧
    (holdStep s).directory = s.directory ∧ (holdStep s).window = s.window ∧ (holdStep s).supervisor = s.supervisor := by
  unfold holdStep; dsimp only; (repeat' split) <;> simp

end Sys2Proof.Machine
end

