-- ==== Sys2Proof/Laws/Memory.lean ====
section
/-! SUPPORT. The laws of addressed memory: what a write does to the byte it names and to every other byte, and
that every memory operation keeps the canonical form. -/

namespace Sys2Proof.Machine

/-- Addresses strictly rising: the half of the canonical form that reading depends on. -/
abbrev Memory.sorted (m : Memory) : Prop := m.Pairwise (fun x y => x.1 < y.1)

@[simp] theorem Memory.read_nil (a : Nat) : Memory.read [] a = 0 := rfl

theorem Memory.read_eq_zero_of_lt {m : Memory} {a : Nat} (h : ∀ c ∈ m, a < c.1) : m.read a = 0 := by
  induction m with
  | nil => rfl
  | cons c m ih =>
    have hc := h c (by simp)
    rw [Memory.read, if_neg (by omega)]
    exact ih fun d hd => h d (by simp [hd])

/-- The byte written is the byte read. -/
theorem Memory.read_write_same {m : Memory} (hm : m.sorted) (a : Nat) (b : Byte) : (m.write a b).read a = b := by
  induction m with
  | nil =>
    rw [Memory.write]
    split_ifs with hb
    · exact hb.symm
    · exact if_pos rfl
  | cons c m ih =>
    obtain ⟨hc, hm⟩ := List.pairwise_cons.mp hm
    have hlt : c.1 = a → Memory.read m a = 0 := fun h => Memory.read_eq_zero_of_lt fun d hd => h ▸ hc d hd
    rw [Memory.write]
    split_ifs with h1 h2 h3 h4
    · subst h2
      rw [Memory.read, if_neg (by omega)]
      exact Memory.read_eq_zero_of_lt fun d hd => h1.trans (hc d hd)
    · simp [Memory.read]
    · rw [h4]; exact hlt h3.symm
    · simp [Memory.read]
    · rw [Memory.read, if_neg (by omega)]; exact ih hm

/-- Every other byte reads as before. -/
theorem Memory.read_write_of_ne {m : Memory} (hm : m.sorted) {a x : Nat} (h : x ≠ a) (b : Byte) :
    (m.write a b).read x = m.read x := by
  induction m with
  | nil =>
    rw [Memory.write]
    split_ifs
    · rfl
    · exact if_neg h.symm
  | cons c m ih =>
    obtain ⟨hc, hm⟩ := List.pairwise_cons.mp hm
    rw [Memory.write]
    split_ifs with h1 h2 h3 h4
    · rfl
    · simp [Memory.read, h.symm]
    · rw [Memory.read, if_neg (by omega)]
    · simp [Memory.read, h.symm, ← h3]
    · by_cases hx : c.1 = x
      · simp [Memory.read, hx]
      · rw [Memory.read, if_neg hx, Memory.read, if_neg hx]; exact ih hm

/-- A write keeps every property of cells that the new cell has. -/
theorem Memory.forall_mem_write {P : Host.Cell → Prop} {m : Memory} {a : Nat} {b : Byte} (hm : ∀ c ∈ m, P c)
    (hb : b ≠ 0 → P (a, b)) : ∀ c ∈ m.write a b, P c := by
  induction m with
  | nil =>
    rw [Memory.write]
    split_ifs with h
    · exact hm
    · intro c hc
      rw [List.mem_singleton] at hc
      exact hc ▸ hb h
  | cons d m ih =>
    have hd := hm d (by simp)
    have hm' : ∀ c ∈ m, P c := fun c hc => hm c (by simp [hc])
    rw [Memory.write]
    intro c hc
    split_ifs at hc with h1 h2 h3 h4
    · exact hm c hc
    · obtain rfl | hc := List.mem_cons.mp hc
      exacts [hb h2, hm c hc]
    · exact hm' c hc
    · obtain rfl | hc := List.mem_cons.mp hc
      exacts [hb h4, hm' c hc]
    · obtain rfl | hc := List.mem_cons.mp hc
      exacts [hd, ih hm' c hc]

/-- A write keeps the canonical form. -/
theorem Memory.wf_write {m : Memory} {size a : Nat} (hm : m.wf size) (ha : a < size) (b : Byte) :
    (m.write a b).wf size := by
  refine ⟨?_, Memory.forall_mem_write hm.2 fun hb => ⟨hb, ha⟩⟩
  replace hm := hm.1
  induction m with
  | nil => rw [Memory.write]; split_ifs <;> simp
  | cons c m ih =>
    obtain ⟨hc, hm⟩ := List.pairwise_cons.mp hm
    rw [Memory.write]
    split_ifs with h1 h2 h3 h4
    · exact List.pairwise_cons.mpr ⟨hc, hm⟩
    · exact List.pairwise_cons.mpr ⟨fun d hd => by
        obtain rfl | hd := List.mem_cons.mp hd
        exacts [h1, h1.trans (hc d hd)], List.pairwise_cons.mpr ⟨hc, hm⟩⟩
    · exact hm
    · exact List.pairwise_cons.mpr ⟨fun d hd => h3 ▸ hc d hd, hm⟩
    · exact List.pairwise_cons.mpr ⟨Memory.forall_mem_write hc fun _ => by show c.1 < a; omega, ih hm⟩

/-- Storing bytes one after another keeps the canonical form. -/
theorem Memory.wf_writeAll {size : Nat} {bs : List Byte} {m : Memory} {a : Nat} (hm : m.wf size)
    (ha : a + bs.length ≤ size) : (m.writeAll a bs).wf size := by
  induction bs generalizing m a with
  | nil => exact hm
  | cons b bs ih =>
    rw [List.length_cons] at ha
    exact ih (Memory.wf_write hm (by omega) b) (by omega)

/-- Outside the bytes stored, every byte reads as before. -/
theorem Memory.read_writeAll_of_outside {size : Nat} {bs : List Byte} {m : Memory} {a x : Nat} (hm : m.wf size)
    (ha : a + bs.length ≤ size) (h : x < a ∨ a + bs.length ≤ x) : (m.writeAll a bs).read x = m.read x := by
  induction bs generalizing m a with
  | nil => rfl
  | cons b bs ih =>
    rw [List.length_cons] at ha h
    rw [Memory.writeAll, ih (Memory.wf_write hm (by omega) b) (by omega) (by omega),
      Memory.read_write_of_ne hm.1 (by omega)]

/-- Each byte stored is the byte read. -/
theorem Memory.read_writeAll_of_inside {size : Nat} {bs : List Byte} {m : Memory} {a i : Nat} (hm : m.wf size)
    (ha : a + bs.length ≤ size) (hi : i < bs.length) : (m.writeAll a bs).read (a + i) = bs[i] := by
  induction bs generalizing m a i with
  | nil => simp at hi
  | cons b bs ih =>
    rw [List.length_cons] at ha hi
    have hw := Memory.wf_write hm (show a < size by omega) b
    rw [Memory.writeAll]
    cases i with
    | zero =>
      rw [Memory.read_writeAll_of_outside hw (by omega) (by omega)]
      exact Memory.read_write_same hm.1 a b
    | succ i =>
      rw [show a + (i + 1) = a + 1 + i by omega]
      exact ih hw (by omega) (by omega)

theorem Memory.wf_nil (size : Nat) : Memory.wf size [] :=
  ⟨List.Pairwise.nil, fun _ h => absurd h List.not_mem_nil⟩

/-- The canonical form holds of the three stores at reset. -/
theorem State.reset_stores_wf : State.reset.capture.wf Config.captureBytes ∧
    State.reset.directory.wf Config.directoryBytes ∧ State.reset.freeze.wf Config.freezeBytes :=
  ⟨Memory.wf_nil _, Memory.wf_nil _, Memory.wf_nil _⟩

end Sys2Proof.Machine
end

