-- ==== Sys2Proof/Laws/Operations.lean ====
section
/-! SUPPORT. What the shared operations do to the fields they touch: an offered count (R76, R85, R86), the offer
rule (R112), the drain (R110), the bytes of the link (R4 to R7), the six checks (R21) and the completion event (R22). -/

namespace Sys2Proof.Machine

/-! An offered count -/

theorem offerCount_of_not_running {c : Fin 45} {s : State} (h : s.units.bank (bankOf c) ≠ .running) :
    offerCount c s = s := by
  unfold offerCount; exact if_neg h

/-- A counter takes the count exactly if its bank is Running (R76). -/
theorem offerCount_value (c k : Fin 45) (s : State) :
    (offerCount c s).counters.value[k] =
      if k = c ∧ s.units.bank (bankOf c) = .running then s.counters.value[k] + 1 else s.counters.value[k] := by
  unfold offerCount
  split_ifs with h1
  · by_cases hk : k = c
    · subst hk; simp [h1]
    · have hne : (c : Nat) ≠ k := fun h => hk (Fin.ext h.symm)
      simp [Vector.getElem_set_ne, hne, hk]
  · simp [h1]

/-- The counter joins its bank's wrap set exactly if the count carried it to 0 (R85). -/
theorem offerCount_wrapped (c k : Fin 45) (s : State) :
    (offerCount c s).counters.wrapped[k] =
      (s.counters.wrapped[k] ||
        decide (k = c ∧ s.units.bank (bankOf c) = .running ∧ s.counters.value[c] + 1 = 0)) := by
  unfold offerCount
  split_ifs with h1
  · by_cases hw : s.counters.value[c] + 1 = 0
    · by_cases hk : k = c
      · subst hk; simp_all
      · have hne : (c : Nat) ≠ k := fun h => hk (Fin.ext h.symm)
        simp_all [Vector.getElem_set_ne]
    · simp_all
  · simp [h1]

/-- The enables are untouched by counting (R86). -/
@[simp] theorem offerCount_wrapAlert (c : Fin 45) (s : State) :
    (offerCount c s).counters.wrapAlert = s.counters.wrapAlert := by
  unfold offerCount; split_ifs <;> rfl

/-- Counting touches of the alert unit the pending set alone. -/
@[simp] theorem offerCount_alerts_rest (c : Fin 45) (s : State) :
    (offerCount c s).alerts.mask = s.alerts.mask ∧ (offerCount c s).alerts.faultKind = s.alerts.faultKind ∧
    (offerCount c s).alerts.faultEntry = s.alerts.faultEntry := by
  unfold offerCount; split_ifs <;> simp

/-- COUNTER_WRAP is raised exactly at a wrap in a bank whose enable is set (R86). -/
theorem offerCount_raised (c : Fin 45) (s : State) :
    (offerCount c s).alerts.raised =
      if s.units.bank (bankOf c) = .running ∧ s.counters.value[c] + 1 = 0 ∧
        s.counters.wrapAlert.getLsbD (bankOf c).index = true
      then s.alerts.raised ||| Cause.counterWrap.bit else s.alerts.raised := by
  unfold offerCount
  split_ifs <;> simp_all

/-! The offer rule -/

/-- What an offer leaves alone of the recorder. -/
@[simp] theorem offer_recorder_rest (r : Rec) (s : State) :
    (offer r s).recorder.config = s.recorder.config ∧ (offer r s).recorder.cursor = s.recorder.cursor ∧
    (offer r s).recorder.records = s.recorder.records ∧ (offer r s).recorder.countdown = s.recorder.countdown ∧
    (offer r s).recorder.deferred = s.recorder.deferred ∧ (offer r s).recorder.missed = s.recorder.missed ∧
    (offer r s).recorder.snapSeq = s.recorder.snapSeq ∧ (offer r s).recorder.leafSeq = s.recorder.leafSeq := by
  unfold offer
  dsimp only
  (repeat' split) <;> simp [countLost]

/-- The queue never holds more than eight records (R110). -/
theorem offer_queue_length (r : Rec) {s : State} (h : s.recorder.queue.length ≤ Config.queueDepth) :
    (offer r s).recorder.queue.length ≤ Config.queueDepth := by
  unfold offer Config.queueDepth at *
  dsimp only
  (repeat' split) <;> simp [countLost] <;> omega

/-! The drain -/

@[simp] theorem discardQueue_queue (s : State) : (discardQueue s).recorder.queue = [] := rfl

/-- An advance that unplaces the cursor has emptied the queue (R125, R126). -/
theorem advance_queue (s : State) (h : (advance s).recorder.cursor.placed = false) :
    (advance s).recorder.queue = [] := by
  revert h
  unfold advance
  dsimp only
  (repeat' split) <;> simp [arrive, leafEntry, stopAt, faultAt] <;> split_ifs <;> simp

theorem sealLeaf_queue (s : State) (h : (sealLeaf s).recorder.cursor.placed = false) :
    (sealLeaf s).recorder.queue = [] := advance_queue _ h

/-- A record handled while the cursor ends unplaced leaves the queue empty (R118). -/
theorem handleRecord_queue (r : Rec) (s : State) (h : (handleRecord r s).recorder.cursor.placed = false) :
    (handleRecord r s).recorder.queue = [] := by
  revert h
  unfold handleRecord
  dsimp only
  split_ifs with h1 h2 h3 h4 h5
  · simp
  · simp_all [dropRecord]
  · simp_all [placeRecord, apply_ite State.recorder]
  · intro _
    simpa using sealLeaf_queue s (by simpa using h4)
  · simp_all [dropRecord]
  · simp_all [placeRecord, apply_ite State.recorder]

/-- The writer empties the queue (R110). -/
theorem drainList_queue (l : List Rec) (s : State) : (drainList l s).recorder.queue = [] := by
  induction l generalizing s with
  | nil => rfl
  | cons r l ih =>
    rw [drainList]
    dsimp only
    split_ifs with h
    · exact ih _
    · exact handleRecord_queue _ _ (by simpa using h)

@[simp] theorem drain_queue (s : State) : (drain s).recorder.queue = [] := drainList_queue _ _

/-! The link -/

/-- Outside a write transfer, and while the link is down, no byte comes in (R4, R7). -/
theorem incomingByte_of_not {s : State} (h : linkUp s = false ∨ takesBytes s = false) (b : Byte) :
    incomingByte b s = .next s := by
  unfold incomingByte
  rcases h with h | h <;> simp [h]

/-- Outside a read transfer, and while the link is down, no byte goes out (R4, R7). -/
theorem outgoingByte_of_not {s : State} (h : linkUp s = false ∨ givesBytes s = false) (m : ReadMoment) :
    outgoingByte m s = .next s := by
  unfold outgoingByte
  rcases h with h | h <;> simp [h]

/-- A not-acknowledge in a read transfer ends it and releases SDA, whatever the parser's state (R6). -/
theorem outgoingByte_nack {s : State} (hu : linkUp s = true) (hi : s.straps.i2c = true)
    (hr : s.link.transfer = .read) :
    outgoingByte .nack s = .next { s with link := { s.link with transfer := .none, out := none } } := by
  simp [outgoingByte, givesBytes, notAcknowledged, hu, hi, hr]

/-! The checks and the completion event -/

/-- Accepted means that all six checks pass (R21). -/
theorem verdict_done_iff (k : CommandKind) (g o : Bool) (f : Option Result) (s : State) (hf : f ≠ some .done) :
    verdict k g o f s = .done ↔
      (s.locked = true → k.passesLock = true) ∧ (k.guarded = true → g = true) ∧
      ¬(s.hold.active = true ∧ (k.guarded = true ∨ k.isHold = true)) ∧
      ¬(s.life = .committed ∧ k.preCommit = true) ∧ o = true ∧ f = none := by
  unfold verdict
  split_ifs <;> cases f <;> simp_all

theorem complete_of_linkUp {s : State} (h : linkUp s = true) (r : Result) (effect : State → State) :
    complete r effect s = moveOn (finishCommand s.hold.active r (if r = .done then effect s else s)) := by
  unfold complete; exact if_pos h

/-- While the link ignores all traffic nothing completes (R7). -/
theorem complete_of_not_linkUp {s : State} (h : linkUp s = false) (r : Result) (effect : State → State) :
    complete r effect s = s := by
  unfold complete; simp [h]

/-- Stage 3 of R22: the result. -/
@[simp] theorem finishCommand_lastResult (held : Bool) (r : Result) (s : State) :
    (finishCommand held r s).lastResult = r := by
  unfold finishCommand; dsimp only; split <;> simp

end Sys2Proof.Machine
end

