-- ==== Sys2Proof/Tests/Slice0.lean ====
section
/-! SUPPORT. Tests on fixed values, each of one event on a small state, with the values of the reference's worked
examples and tables; and for every obligation that has hypotheses a theorem `witness_<name>` whose conjuncts are
concrete states and operands that meet the hypotheses of each of its clauses. -/

namespace Sys2Proof.Tests

open Sys2Proof.Machine Sys2Proof.Safety

/-- The state after one event. -/
def after (c : Instr) (s : State) : State :=
  match exec c s with
  | .next t => t
  | _ => s

/-! ## Small states -/

/-- The part after reset, in OPEN. -/
def base : State := State.reset

/-- With the parser in this state. -/
def parsing (p : Parser) (s : State) : State := { s with link.parser := p }

/-- The link is I2C. -/
def onI2c (s : State) : State := { s with straps.i2c := true }

/-- The link is I2C, with this transfer open. -/
def inTransfer (x : Transfer) (s : State) : State := { onI2c s with link.transfer := x }

/-- The interface is locked. -/
def locked (s : State) : State := { s with locked := true }

/-- The life cycle is COMMITTED. -/
def committed (s : State) : State := { s with life := .committed, outPins.rdy := true }

/-- A hold covers this many more commands. -/
def held (n : Nat) (s : State) : State := { s with hold := { active := true, remaining := n, ticks := 0, alertLow := false } }

/-- The supervisor is in this state and phase. -/
def dog (state : WdState) (phase : WdPhase) (s : State) : State :=
  { s with supervisor.state := state, supervisor.phase := phase }

/-- The supervisor in WATCH with E = 10 and warn on, at this count (section 10.6). -/
def dogAt (count : Nat) (phase : WdPhase) (pulse : Byte) (s : State) : State :=
  { s with supervisor :=
      { state := .watch, phase := phase, count := count, pulse := pulse, e := 10, w := 20, warn := true, tally := 0 } }

/-- All four banks are in this state. -/
def banks (u : UnitState) (s : State) : State :=
  { s with grantMask := 0x1F, units := { s.units with edge := u, dwell := u, link := u, tally := u } }

/-- The ring of section 7.10: STORE 10 to 11, STORE 20 with NOTE, LINK to 0. -/
def ring : Memory := Memory.writeAll [] 0 [1, 0x0A, 1, 0, 1, 0x14, 0, 1, 2, 0, 0, 0]

/-- The recorder is Off under the ring. -/
def recOff (s : State) : State := { s with directory := ring, units.recorder := .off }

/-- The recorder is Running in leaf 10 of the ring at this offset. -/
def recRunning (offset : Nat) (s : State) : State :=
  { s with
    directory := ring
    units.recorder := .running
    recorder.cursor := { entry := 0, leaf := 10, offset := offset, placed := true, blocked := false }
    recorder.countdown := some 1000 }

/-- The recorder is Running, blocked on leaf 10, which is sealed. -/
def recBlocked (s : State) : State :=
  { recRunning 0 s with
    capture := Memory.writeAll [] (256 * 10 + 240) [1]
    recorder.cursor := { entry := 0, leaf := 10, offset := 0, placed := true, blocked := true } }

/-- The last leaf of an entry, partly written, under a directory. -/
def lastLeaf (entry : BitVec 6) (directory : List Byte) : State :=
  { recRunning 8 base with
    directory := Memory.writeAll [] (4 * entry.toNat) directory
    recorder.cursor := { entry := entry, leaf := 5, offset := 8, placed := true, blocked := false } }

/-- STANDBY, with the supervisor off. -/
def asleep (s : State) : State := { dog .off .quiet s with power := .standby }

/-- Input 7 wakes the part (section 11.6). -/
def wakeOn7 (s : State) : State := { s with inputs := s.inputs.set 7 { s.inputs[7] with wake := true, trig := true } }

/-- In INIT, with this many bytes swept. -/
def sweeping (n : Nat) : State := { base with life := .init, sweep := n }

/-- The windows of section 8.7. -/
def looking (space : Space) (walk : Walk) (start stop ptr : Half) (s : State) : State :=
  { s with window := { s.window with space := space, walk := walk, start := start, stop := stop, ptr := ptr } }

/-! ## Ill-formed terms -/

theorem test_wellFormed_wake_needs_a_source : (Instr.wake false 0).wellFormed = false := by decide

theorem test_wellFormed_release_samples_rst_high :
    (Instr.pinResetRelease ⟨false, false, false, false, true⟩).wellFormed = false ∧
    (Instr.releaseOfRstInInit ⟨false, false, false, false, true⟩).wellFormed = false ∧
    (Instr.pinResetRelease ⟨false, false, false, true, false⟩).wellFormed = true := by decide

/-! ## Commands, against the tables and examples of the reference -/

/-- Command bytes of the reference's worked examples: sections 1.5, 2.9, 5.7, 7.10, 10.6 and 11.6. -/
theorem test_command_bytes :
    commandOf false [0x15, 0x02] = some (.hold 2) ∧
    commandOf false [0x61, 0x00, 0x01] = some (.alertack 0x0100) ∧
    commandOf false [0x50, 0x00, 0x01, 0xF0, 0x01, 0xFF, 0x01] = some (.winset 0 1 0x01F0 0x01FF) ∧
    commandOf false [0x32, 0x03, 0x00, 0x00, 0x00, 0x80] = some (.cntset 3 0x80000000) ∧
    commandOf false [0x31, 0x1F] = some (.banksnap 0x1F) ∧ commandOf false [0x40, 0x03, 0x00] = some (.recctl 3 0) ∧
    commandOf false [0x70, 0x0A, 0x14, 0x01] = some (.wdset 10 20 1) ∧
    commandOf true [0x16, 0xE9] = some (.standby 0xE9) ∧ commandOf false [0x0F] = none := by decide

/-- The 26 known codes of section 2.3. -/
theorem test_known_codes :
    ((List.range 256).filter fun code => (commandLength (BitVec.ofNat 8 code)).isSome).length = 26 := by decide

/-- R41's example of section 1.5: with a hold of one more command, the echo byte is 80h and status byte 0 is 19h. -/
theorem test_echo_and_status_in_a_hold :
    (after .echoByte (parsing (.readStream .status false) (held 1 base))).link.out = some 0x80 ∧
    (after .statusByte (after .echoByte (parsing (.readStream .status false) (held 1 base)))).link.out = some 0x19 := by
  decide

/-- Section 4.9: 7Bh and 03h. -/
theorem test_status_units :
    (statusBlock { base with units :=
      { edge := .running, dwell := .ready, link := .running, tally := .off, recorder := .running } }).getD 6 0 = 0x7B ∧
    (statusBlock { base with units :=
      { edge := .running, dwell := .ready, link := .running, tally := .off, recorder := .running } }).getD 7 0 = 0x03 := by
  decide

theorem test_headers_22_23_C0 :
    (after (.headerByte 0x22) (parsing .expectHeader base)).link.parser = .collect 2 true [] ∧
    (after (.headerByte 0x23) (parsing .expectHeader base)).link.parser = .collect 3 true [] ∧
    (after (.headerByte 0xC0) (parsing .expectHeader base)).link.parser = .readStream .status false := by decide

theorem test_code_of_wrong_length_is_framing :
    (after (.codeByte 0x15) (parsing (.collect 1 true []) base)).lastResult = .framing ∧
    (after (.codeByte 0x15) (parsing (.collect 1 true []) base)).link.parser = .ignore := by decide

theorem test_last_byte_runs_hold :
    (after (.operandByte 2 false) (parsing (.collect 2 true [0x15]) base)).hold.remaining = 2 ∧
    (after (.operandByte 2 false) (parsing (.collect 2 true [0x15]) base)).link.parser = .expectHeader := by decide

theorem test_skip_ends_in_unknown :
    (after (.skipByte 9) (parsing (.skip false 1) base)).lastResult = .unknown ∧
    (after (.skipByte 9) (parsing (.skip false 1) base)).link.parser = .ignore := by decide

theorem test_truncation :
    (after .transactionEnd (parsing (.collect 3 true [0x61]) base)).lastResult = .truncated ∧
    (after .transactionEnd (parsing (.collect 3 true [0x61]) base)).alerts.raised = 0x100 := by decide

theorem test_transaction_start_i2c_address :
    (after (.transactionStart ⟨0x4A, false⟩) (onI2c base)).link.parser = .expectHeader ∧
    (after (.transactionStart ⟨0x4A, false⟩) (onI2c base)).link.transfer = .write ∧
    (after (.transactionStart ⟨0x4B, false⟩) (onI2c base)).link.parser = .idle := by decide

/-- R6: the not-acknowledge releases SDA and ends the read transfer, and after a further repeated START with the read bit
the segment goes on with its payload: status byte 0 is 01h (OPEN), not a second echo byte. -/
theorem test_not_acknowledge_ends_the_read_transfer :
    let segment := inTransfer .read (parsing (.readStream .status false) base)
    let ended := after (.echoByte .nack) (after .echoByte segment)
    (after .echoByte segment).link.out = some 0 ∧ ended.link.out = none ∧ ended.link.transfer = .none ∧
    (after .statusByte ended).link.out = none ∧
    (after .statusByte (after (.transactionStart ⟨0x4A, true⟩) ended)).link.out = some 1 := by decide

/-- R7: in INIT the part drives 00h while CS# is low. -/
theorem test_sdo_in_init :
    (after (.powerOnReset ⟨false, false, false, true, false⟩ 0) base).link.out = some 0 ∧
    (after (.sweepComplete ⟨false, false, false, true, true⟩) (sweeping 5)).link.out = some 0 ∧
    (after (.powerOnReset ⟨true, false, false, true, false⟩ 0) base).link.out = none := by decide

theorem test_stray_read_and_write :
    (after .strayRead (inTransfer .read (parsing .expectHeader base))).link.out = none ∧
    (after .strayRead (inTransfer .read (parsing .expectHeader base))).lastResult = .framing ∧
    (after (.strayWrite 0) (inTransfer .write (parsing (.readStream .status true) base))).link.parser = .ignore := by decide

theorem test_ignored_byte : after (.ignoredByte 0x22) (inTransfer .write (parsing .ignore base)) =
    { onI2c base with link := { base.link with parser := .ignore, transfer := .write, ack := true } } := by decide

/-- Section 2.9, the order of the acceptance checks, in the order of its lines. -/
theorem test_order_of_the_checks :
    (after (.unlock 0x00) (locked base)).lastResult = .guard ∧
    (after (.hold 9) (locked base)).lastResult = .locked ∧
    (after .unknownCommand (locked base)).lastResult = .unknown ∧
    (after (.grant 0 0 0xEF) (held 2 (committed base))).lastResult = .held ∧
    (after (.hold 0) (held 2 base)).lastResult = .held ∧
    (after (.wdset 30 20 0) (committed base)).lastResult = .committed ∧
    (after (.wdset 30 20 0) (held 2 base)).lastResult = .operand ∧
    (after (.commit 0x11) (committed base)).lastResult = .guard := by decide

theorem test_nop : (after .nop (held 2 base)).hold.remaining = 1 ∧ (after .nop (locked base)).lastResult = .locked := by
  decide

theorem test_commit : (after (.commit 0xEE) base).life = .committed ∧ (after (.commit 0xEE) base).outPins.rdy = true ∧
    (after (.commit 0xEE) base).supervisor.state = .watch := by decide

theorem test_lock_unlock : (after .lock base).locked = true ∧ (after (.unlock 0xEB) (locked base)).locked = false := by
  decide

theorem test_sysreset :
    (after (.sysreset 0xED true) (recRunning 8 (committed base))).life = .opened ∧
    (after (.sysreset 0xED true) (recRunning 8 (committed base))).permit = true ∧
    (after (.sysreset 0xED true) (recRunning 8 (committed base))).resetCause = .command ∧
    (after (.sysreset 0xED true) (recRunning 8 (committed base))).directory = ring := by decide

theorem test_standby :
    (after (.standby 0xE9) (dog .off .quiet { base with episode := 4 })).episode = 5 ∧
    (after (.standby 0xE9) (dog .watch .quiet base)).lastResult = .state := by decide

theorem test_tbset : (after (.tbset 9) { base with divider := 7 }).prescaler = 9 ∧
    (after (.tbset 9) { base with divider := 7 }).divider = 0 := by decide

/-- 01A2h: F = 2, edge mode RISE, TRIG and WAKE on (R50). -/
theorem test_incfg : (after (.incfg 7 0x01A2) base).inputs[7] =
    { inverted := false, mode := .rise, filter := 2, trig := true, wake := true
      level := false, stab := 0, seeded := false } := by decide

/-- Section 2.9: CDh moves EDGE to Ready and leaves LINK and TALLY Running. -/
theorem test_bankctl :
    (after (.bankctl 0xCD) (banks .running base)).units.edge = .ready ∧
    (after (.bankctl 0xCD) (banks .running base)).units.dwell = .off ∧
    (after (.bankctl 0xCD) (banks .running base)).units.link = .running := by decide

/-- Section 4.9: 57h with EDGE Locked is TRANSITION. -/
theorem test_bankctl_of_a_locked_bank :
    (after (.bankctl 0x57) { banks .running base with units.edge := .locked }).lastResult = .transition := by decide

theorem test_banksnap :
    (after (.banksnap 0x14) { banks .running base with
      counters.value := base.counters.value.set 36 7
      counters.wrapped := base.counters.wrapped.set 36 true }).freeze.read 152 = 7 ∧
    (after (.banksnap 0x14) { banks .running base with
      counters.wrapped := base.counters.wrapped.set 36 true }).freeze.read 192 = 0x10 ∧
    (after (.banksnap 0x14) { banks .running base with
      counters.wrapped := base.counters.wrapped.set 36 true }).counters.wrapped[36] = false := by decide

theorem test_cntset_wrapcfg :
    (after (.cntset 3 0x80000000) (banks .ready base)).counters.value[3] = 0x80000000 ∧
    (after (.cntset 3 5) (banks .running base)).lastResult = .state ∧
    (after (.wrapcfg 5) base).counters.wrapAlert = 5 := by decide

/-- Section 5.7: the count that carries 36 through zero raises COUNTER_WRAP where the enable is set. -/
theorem test_counter_wraps :
    (offerCount 36 { banks .running base with
      counters.value := base.counters.value.set 36 0xFFFFFFFF, counters.wrapAlert := 4 }).alerts.raised = 0x20 := by
  decide

theorem test_grant : (after (.grant 0x1F 0x13 0xEF) base).units =
    { edge := .locked, dwell := .locked, link := .off, tally := .off, recorder := .locked } := by decide

/-- Section 4.9: EDGE, DWELL and the recorder lose the permit. -/
theorem test_permit_change :
    (after (.permitChange false) { banks .running base with guardMask := 0x13, permit := true, permitStab := 7 }).units.edge
      = .locked ∧
    (after (.permitChange false) { banks .running base with guardMask := 0x13, permit := true, permitStab := 7 }).alerts.raised
      = 0x10 := by decide

/-- Section 7.10: status bytes 8 to 10 read 40h, 0Ah, 00h. -/
theorem test_recctl_starts_the_ring :
    ((statusBlock (after (.recctl 3 0) (recOff base))).drop 8).take 3 = [0x40, 0x0A, 0x00] := by decide

theorem test_reccfg : (after (.reccfg 1000 0x0F 9 (Vector.replicate 8 0)) base).lastResult = .operand ∧
    (after (.reccfg 500 0x0D 0 (Vector.replicate 8 0)) base).recorder.config.interval = 500 := by decide

theorem test_mark : leafByte (after (.mark 3 0x1234) (recRunning 20 base)) 10 20 = 0x42 ∧
    leafByte (after (.mark 3 0x1234) (recRunning 20 base)) 10 22 = 0x34 ∧
    (after (.mark 3 0x1234) (recRunning 20 base)).recorder.cursor.offset = 28 := by decide

/-- Section 7.10: the dropped count of leaf 10 becomes 1. -/
theorem test_mark_at_an_occupied_leaf :
    leafByte (after (.mark 3 0x1234) (recBlocked base)) 10 244 = 1 ∧
    (after (.mark 3 0x1234) (recBlocked base)).alerts.raised = 8 := by decide

set_option maxRecDepth 8000 in
/-- Section 6.5: used is 0Bh at end offset 44. -/
theorem test_sealnow :
    leafByte (after .sealnow (recRunning 44 base)) 10 240 = 1 ∧ leafByte (after .sealnow (recRunning 44 base)) 10 242 = 0x0B ∧
    (after .sealnow (recRunning 44 base)).recorder.cursor.leaf = 11 := by decide

theorem test_release_notemark :
    (after (.release 10) (recBlocked base)).recorder.cursor.blocked = false ∧
    leafByte (after (.release 10) (recBlocked base)) 10 240 = 0 ∧
    leafByte (after (.notemark 10) (recBlocked base)) 10 240 = 3 := by decide

/-- Section 1.5: the one-shot window on the seal of leaf 1. -/
theorem test_winset : (after (.winset 0 1 0x01F0 0x01FF) base).window =
    { space := .capture, walk := .oneshot, start := 0x01F0, stop := 0x01FF, ptr := 0x01F0, exhausted := false
      closed := false, unclocked := false } := by decide

/-- Section 8.7: after the last seal byte of the last leaf the pointer is back at the first. -/
theorem test_window_read_of_seals :
    (after (.windowReadByte .value)
      (inTransfer .read (parsing (.readStream .window true) (looking .capture .seals 10 12 0x0CFF base)))).window.ptr = 0x0AF0 := by
  decide

theorem test_window_write :
    (after (.windowWriteByte 0x5A) (parsing .writeStream (looking .directory .wrap 0 3 3 base))).directory = [⟨3, 0x5A⟩] ∧
    (after (.windowWriteByte 0x5A) (parsing .writeStream (looking .directory .wrap 0 3 3 base))).window.ptr = 0 ∧
    (after (.windowWriteByte 0x5A) (parsing .writeStream (looking .freeze .wrap 0 3 3 base))).lastResult = .denied := by
  decide

/-- Section 9.9. -/
theorem test_alertmask_alertack :
    (after (.alertmask 0x01BF) { base with alerts.raised := 0x40, outPins.alertLow := true }).outPins.alertLow = false ∧
    (after (.alertack 2) { base with alerts.raised := 2 }).alerts.raised = 0 := by decide

theorem test_supervisor_commands :
    (after (.wdset 10 20 1) base).supervisor.e = 10 ∧ (after (.wdkick 0x8E) base).supervisor.state = .watch ∧
    (after (.wdkick 0x8E) (dogAt 1024 .pulsing 20 base)).lastResult = .state ∧
    (after (.wdoff 0x8D) base).supervisor.state = .off := by decide

/-! ## Ticks, wakes and resets -/

set_option maxRecDepth 8000 in
theorem test_tick : (after (.tick false 0x21) base).timebase = 1 ∧ (after (.tick false 0x21) base).inputs[5].level = true ∧
    (after (.tick false 0x21) base).inputs[4].level = false ∧ (after (.tick false 0x21) base).supervisor.count = 1 := by
  decide

/-- Section 10.6: the warning at 512, the firing at 1,024, the end of the pulse 20 ticks later. -/
theorem test_missed_kick :
    (after .wdWarn (dogAt 511 .quiet 0 base)).alerts.raised = 0x40 ∧
    (after .wdFired (dogAt 1023 .warned 0 base)).outPins.hrstLow = true ∧
    (after .wdFired (dogAt 1023 .warned 0 base)).supervisor.tally = 1 ∧
    (after .pulseEnd (dogAt 1024 .pulsing 1 base)).supervisor.phase = .quiet := by decide

/-- Input 5 of section 3.8 (RISE, F = 2, TRIG), at this stability count. -/
def bouncing (stab : BitVec 4) (s : State) : State :=
  { s with inputs := s.inputs.set 5
            { s.inputs[5] with mode := .rise, filter := 2, trig := true, stab := stab, seeded := true } }

/-- Section 3.8: the third tick at the new level in a row, with F = 2, is the edge. -/
theorem test_input_edge :
    (after (.inputEdge 5 true) (bouncing 2 (banks .running base))).counters.value[5] = 1 ∧
    (after (.inputEdge 5 true) (bouncing 1 (banks .running base))).counters.value[5] = 0 := by decide

theorem test_sampling_point :
    (after .samplingPoint { recRunning 0 base with recorder.countdown := some 1 }).recorder.snapSeq = 1 ∧
    (after .samplingPoint { held 2 (recRunning 0 base) with recorder.countdown := some 1 }).recorder.deferred = true := by
  decide

theorem test_hold_ends :
    (after .holdTickLimit { held 2 base with hold.ticks := 255 }).hold.active = false ∧
    (after .holdCommandsDone (held 1 base)).hold.active = false := by decide

/-- R38 and R173: the falling edge of RST# ends the hold and drops its deferred sampling point. -/
theorem test_pin_reset_ends_hold :
    let s := after .pinResetAssert { held 2 (recRunning 0 base) with recorder.deferred := true, recorder.missed := 3 }
    s.hold.active = false ∧ s.hold.remaining = 0 ∧ s.recorder.deferred = false ∧ s.recorder.missed = 0 := by decide

/-- Section 11.6: 62h 02h 07h 05h from input 7, 62h 01h 00h 05h from the host. -/
theorem test_wake :
    leafByte (after (.wake false 0x80) (wakeOn7 (asleep (recRunning 0 { base with episode := 5 })))) 10 2 = 7 ∧
    leafByte (after (.wake true 0x80) (wakeOn7 (asleep (recRunning 0 { base with episode := 5 })))) 10 1 = 1 ∧
    (after (.wake false 0x40) (wakeOn7 (asleep base))).power = .standby := by decide

theorem test_resets :
    (after (.powerOnReset ⟨true, false, false, false, false⟩ 0) base).life = .init ∧
    (after (.sweepComplete ⟨false, false, true, false, false⟩) (sweeping 5)).permit = true ∧
    (after (.releaseOfRstInInit ⟨true, true, false, false, false⟩) (sweeping 65792)).straps.adrHigh = true ∧
    (after .pinResetAssert (committed base)).outPins.rdy = false ∧
    (after (.pinResetRelease ⟨false, false, false, true, false⟩) (after .pinResetAssert base)).link.parser = .ignore ∧
    (after (.pinResetRelease ⟨false, false, false, true, false⟩) (after .pinResetAssert base)).resetCount = 1 ∧
    (after .lossOfSupply (committed base)).outPins.rdy = false := by decide

/-! ## Witnesses: states and operands that meet the hypotheses of the obligations -/

theorem witness_StepRunsFrontCommand : { base with pending := [.nop, .lock] }.pending = .nop :: [.lock] := by decide

/-- In RUN, in STANDBY, while RST# is held low, and without supply. -/
theorem witness_TickEveryPPlusOnePeriods :
    (base.pending = [] ∧ base.life = .opened ∧ base.power = .run ∧ base.divider = 0 ∧ 99 ≤ base.prescaler.toNat) ∧
    ((asleep base).life = .opened ∧ (asleep base).power = .standby ∧ (asleep base).pending = []) ∧
    ((after .pinResetAssert base).life = .heldInReset ∧ (after .pinResetAssert base).pending = []) ∧
    (after .lossOfSupply base).life = .unpowered ∧ (after .lossOfSupply base).pending = [] := by decide

theorem witness_SweepTakes65792Periods :
    (sweeping 0).pending = [] ∧ (sweeping 0).life = .init ∧ (sweeping 0).sweep = 0 ∧
    (sweeping 0).inPins.rstLow = false ∧ (sweeping 0).capture.wf 65536 ∧ (sweeping 0).directory.wf 256 := by decide

/-- Both ends of the ranges: the whole of CAPTURE, and the last seal byte of a SEALS walk. -/
theorem witness_NoStepStops :
    WindowOk base ∧ WindowOk (looking .capture .wrap 0 65535 65535 base) ∧
    WindowOk (looking .capture .seals 10 12 0x0CFF base) := by decide

theorem witness_CommandBytesSpellTheCommand :
    (commandBytes (.hold 2) = some [0x15, 2] ∧ ∀ g p, Instr.hold 2 = .sysreset g p → p = false) ∧
    (commandBytes (.sysreset 0xED true) = some [0x12, 0xED] ∧
      ∀ g p, Instr.sysreset 0xED true = .sysreset g p → p = true) :=
  ⟨⟨rfl, fun _ _ h => nomatch h⟩, rfl, fun _ _ h => by cases h; rfl⟩

theorem witness_SpelledCommandHasTheseBytes : commandOf false [0x15, 2] = some (.hold 2) := by decide

theorem witness_TransactionStartOpens :
    (linkUp base = true ∧ base.straps.i2c = false ∧ base.power = .run) ∧
    (linkUp (onI2c base) = true ∧ (onI2c base).straps.adrHigh = false ∧ (onI2c base).power = .run) ∧
    (linkUp (asleep base) = true ∧ (asleep base).straps.i2c = false ∧ (asleep base).power = .standby ∧
      (asleep base).link.parser = .idle) ∧
    ((onI2c base).straps.i2c = true ∧ (0x10 : BitVec 7) ≠ 0x4A) ∧
    ((sweeping 0).life = .init ∧ (sweeping 0).straps.i2c = false) ∧
    (after .lossOfSupply base).life = .unpowered := by decide

theorem witness_TransactionEndCloses :
    (linkUp base = true ∧ (parsing .ignore base).link.parser ≠ .idle ∧
      insideCommand (parsing .ignore base).link.parser = false) ∧
    (insideCommand (parsing (.collect 3 true [0x61]) base).link.parser = true) ∧ base.link.parser = .idle := by decide

theorem witness_HeaderByteOpensSegment :
    linkUp (parsing .expectHeader base) = true ∧ WriteOpen (parsing .expectHeader base) ∧
    WriteOpen (inTransfer .write base) ∧ (parsing .expectHeader base).link.parser = .expectHeader ∧
    headerOk 0x01 = true ∧ headerOk 0x3F = true ∧ headerOk 0x40 = true ∧ headerOk 0x80 = true ∧
    headerOk 0xC0 = true := by decide

/-- A two-byte HOLD at its code byte and at its last byte, a one-byte NOP, an unknown code of one and of two bytes. -/
theorem witness_CodeAndOperandBytes :
    linkUp (parsing (.collect 2 true []) base) = true ∧ WriteOpen (parsing (.collect 2 true []) base) ∧
    (commandLength 0x15 = some (2 : BitVec 5).toNat ∧ 1 < (2 : BitVec 5).toNat) ∧
    (commandLength 0x00 = some (1 : BitVec 5).toNat ∧ (1 : BitVec 5).toNat = 1 ∧
      commandOf base.inPins.prm [0x00] = some .nop) ∧
    (commandLength 0x0F = none ∧ 1 < (2 : BitVec 5).toNat) ∧
    (commandLength 0x0F = none ∧ (1 : BitVec 5).toNat = 1) ∧
    ([(0x61 : Byte)].length < (3 : BitVec 5).toNat ∧ [(0x61 : Byte)] ≠ [] ∧ 2 < (3 : BitVec 5).toNat) ∧
    (commandLength 0x15 = some 2 ∧ (2 : BitVec 5).toNat = 2 ∧ commandOf true [0x15, 2] = some (.hold 2)) := by decide

theorem witness_SkippedAndIgnoredBytes :
    linkUp (parsing (.skip true 2) base) = true ∧ (parsing (.skip true 2) base).link.parser = .skip true 2 ∧
    (parsing (.skip true 1) base).link.parser = .skip true 1 ∧ (parsing .ignore base).link.parser = .ignore ∧
    WriteOpen base ∧ ¬WriteOpen (onI2c base) ∧ linkUp (onI2c base) = true ∧ base.straps.i2c = false ∧
    linkUp (parsing (.readStream .status true) base) = true ∧
    (parsing (.readStream .status true) base).link.parser = .readStream .status true ∧
    (sweeping 0).life = .init ∧ (after .pinResetAssert base).life = .heldInReset ∧
    (after .lossOfSupply base).life = .unpowered := by decide

theorem witness_FramingErrors :
    linkUp (onI2c (parsing .expectHeader base)) = true ∧
    (WriteOpen (parsing .expectHeader base) ∧ (parsing .expectHeader base).link.parser = .expectHeader ∧
      headerOk 0x00 = false ∧ headerOk 0x41 = false) ∧
    ((parsing (.collect 1 true []) base).link.parser = .collect 1 true [] ∧ (commandLength 0x15).isSome = true ∧
      commandLength 0x15 ≠ some (1 : BitVec 5).toNat) ∧
    (let s := inTransfer .read (parsing .expectHeader base);
      s.straps.i2c = true ∧ s.link.transfer = .read ∧ s.link.parser = .expectHeader) ∧
    (let s := inTransfer .write (parsing (.readStream .window true) base);
      s.straps.i2c = true ∧ s.link.transfer = .write ∧ ∃ k e, s.link.parser = .readStream k e) ∧
    (let s := inTransfer .read (parsing .ignore base);
      linkUp s = true ∧ s.straps.i2c = true ∧ s.link.transfer = .read ∧ s.link.parser = .ignore) ∧
    (let s := parsing (.collect 2 true []) base;
      linkUp s = true ∧ s.straps.i2c = false ∧ s.link.parser ≠ .idle ∧ ∀ k e, s.link.parser ≠ .readStream k e) :=
  ⟨by decide, by decide, by decide, by decide, ⟨rfl, rfl, .window, true, rfl⟩, by decide,
    by decide, rfl, by decide, fun _ _ h => nomatch h⟩

/-- The last byte of the latched copy, and the byte after it. -/
theorem witness_EchoAndStatusBytes :
    linkUp base = true ∧ (parsing (.readStream .window false) base).link.parser = .readStream .window false ∧
    (let s := { base with link :=
        { base.link with parser := .readStream .status true, latch := List.replicate 20 0, latchPos := 19 } };
      s.link.parser = .readStream .status true ∧ s.link.latch.length = 20 ∧ s.link.latchPos < 20) ∧
    (let s := { base with link :=
        { base.link with parser := .readStream .status true, latch := List.replicate 20 0, latchPos := 20 } };
      s.link.latch.length = 20 ∧ 20 ≤ s.link.latchPos) ∧
    ReadOpen base ∧ (linkUp (inTransfer .read base) = true ∧ (inTransfer .read base).straps.i2c = true ∧
      (inTransfer .read base).link.transfer = .read) ∧
    ¬ReadOpen (onI2c base) ∧ base.straps.i2c = false ∧ base.link.parser ≠ .readStream .window true := by decide

theorem witness_StatusBlockLayout :
    (base.life = .opened ∧ (committed base).life = .committed) ∧ (HoldOk (held 4 base) ∧ QueueOk (held 4 base) ∧ CursorOk (held 4 base)) ∧
    HoldOk (recRunning 240 base) ∧ QueueOk (recRunning 240 base) ∧ CursorOk (recRunning 240 base) := by decide

/-- An open window segment of an SPI link, before and after the value of a byte is fixed; of an I2C link; a closed one; an
exhausted ONESHOT window. -/
theorem witness_WindowReadDelivers :
    (let s := parsing (.readStream .window true) base;
      linkUp s = true ∧ ReadOpen s ∧ s.link.parser = .readStream .window true ∧ WindowOk s ∧ s.straps.i2c = false ∧
      s.window.unclocked = false) ∧
    (let s := inTransfer .read (parsing (.readStream .window true) (looking .capture .wrap 0 65535 65535 base));
      linkUp s = true ∧ ReadOpen s ∧ WindowOk s ∧ s.straps.i2c = true ∧ s.window.closed = false ∧ s.locked = false ∧
      ¬(s.window.walk = .oneshot ∧ s.window.exhausted = true)) ∧
    (let s := inTransfer .read (locked (parsing (.readStream .window true) base));
      ReadOpen s ∧ WindowOk s ∧ s.straps.i2c = true ∧ s.window.closed = false ∧ s.locked = true) ∧
    (let s := { parsing (.readStream .window true) base with window.unclocked := true, window.closed := true };
      WindowOk s ∧ s.straps.i2c = false ∧ s.window.unclocked = true ∧ s.window.closed = true) ∧
    (let s := { parsing (.readStream .window true) (looking .freeze .oneshot 0 195 195 base) with
        window.exhausted := true };
      WindowOk s ∧ s.locked = false ∧ s.window.walk = .oneshot ∧ s.window.exhausted = true) ∧
    (let s := { parsing (.readStream .window true) base with window.unclocked := true };
      WindowOk s ∧ s.window.unclocked = true ∧ s.window.closed = false ∧ s.locked = false ∧
      (locked s).locked = true) :=
  ⟨by decide, by decide, by decide, by decide, by decide, by decide⟩

theorem witness_WindowWriteStoresOrRefuses :
    (let s := { parsing .writeStream base with window.closed := true };
      linkUp s = true ∧ WriteOpen s ∧ s.link.parser = .writeStream ∧ s.window.closed = true) ∧
    (let s := locked (parsing .writeStream base);
      s.window.closed = false ∧ s.locked = true) ∧
    (let s := parsing .writeStream (recRunning 0 base);
      s.window.closed = false ∧ s.locked = false ∧ s.units.recorder = .running) ∧
    (let s := parsing .writeStream (looking .capture .wrap 0 65535 65535 base);
      linkUp s = true ∧ s.window.closed = false ∧ s.locked = false ∧ s.window.space = .capture ∧
      s.units.recorder = .locked ∧ s.window.walk = .wrap ∧ WindowOk s ∧ StoresOk s) ∧
    (let s := parsing .writeStream (recOff (looking .directory .oneshot 0 255 255 base));
      s.window.space = .directory ∧ s.units.recorder = .off ∧ s.window.exhausted = false ∧ WindowOk s ∧ StoresOk s) :=
  ⟨by decide, by decide, by decide, by decide, by decide⟩

theorem witness_NopDoesNothing :
    linkUp base = true ∧ HoldGoesOn base ∧ linkUp (held 1 (locked base)) = true ∧ ¬HoldGoesOn (held 1 (locked base)) := by
  decide

theorem witness_LockWdoffAndStandby :
    (linkUp base = true ∧ HoldGoesOn base ∧ base.supervisor.state = .openWatch) ∧
    (linkUp (held 1 base) = true ∧ ¬HoldGoesOn (held 1 base)) ∧
    (linkUp (dog .off .quiet base) = true ∧ (dog .off .quiet base).power = .run) ∧ (asleep base).power = .standby := by
  decide

theorem witness_UnlockNeedsItsGuard :
    linkUp (locked base) = true ∧ HoldGoesOn (locked base) ∧ linkUp (held 1 base) = true ∧ ¬HoldGoesOn (held 1 base) := by
  decide

theorem witness_CommitFreezes :
    (linkUp base = true ∧ HoldGoesOn base ∧ base.life = .opened) ∧
    (linkUp (committed base) = true ∧ HoldGoesOn (committed base)) ∧ ¬HoldGoesOn (held 1 base) := by decide

theorem witness_HoldOpens :
    (linkUp base = true ∧ HoldGoesOn base ∧ base.hold.active = false ∧ (4 : Byte).toNat ≤ 4) ∧
    (linkUp (held 1 base) = true ∧ ¬HoldGoesOn (held 1 base)) := by decide

theorem witness_SysresetResets :
    passesFour (.sysreset 0xED true) base = true ∧ passesFour (.sysreset 0xED false) (committed base) = true := by decide

theorem witness_FirstFourChecks :
    (commandBytes (.hold 9)).isSome = true ∧
    (let s := locked base;
      linkUp s = true ∧ HoldGoesOn s ∧ s.locked = true ∧ passesLock (.hold 9) = false) ∧
    ((locked base).locked = true ∧ passesLock (.unlock 0) = true ∧ isProtected (.unlock 0) = true ∧
      guardRight (.unlock 0) = false) ∧
    (let s := held 2 (committed base);
      linkUp s = true ∧ HoldGoesOn s ∧ s.locked = false ∧ isProtected (.grant 0 0 0xEF) = true ∧
      guardRight (.grant 0 0 0xEF) = true ∧ s.hold.active = true ∧ isHold (.hold 0) = true) ∧
    (let s := committed base;
      linkUp s = true ∧ HoldGoesOn s ∧ s.locked = false ∧ s.hold.active = false ∧ s.life = .committed ∧
      isPreCommitOnly (.wdset 30 20 0) = true ∧ isProtected (.wdset 30 20 0) = false ∧ isCommit (.commit 0xEE) = true ∧
      guardRight (.commit 0xEE) = true) := by decide

/-- Each command at the first value outside its range, where the first four checks pass. -/
theorem witness_OperandsOutOfRange :
    HoldGoesOn (recOff base) ∧
    (let s := recOff base;
      passesFour (.grant 32 0 0xEF) s = true ∧ passesFour (.incfg 16 0) s = true ∧ passesFour (.incfg 0 512) s = true ∧
      (passesFour (.bankctl 0x10) s = true ∧ ((0x10 : Byte) >>> 4) &&& ~~~(0x10 : Byte) ≠ 0) ∧
      (passesFour (.banksnap 0x10) s = true ∧ (0x10 : Byte) &&& 0x0F = 0) ∧ passesFour (.cntset 45 0) s = true ∧
      passesFour (.wrapcfg 16) s = true ∧ passesFour (.recctl 4 0) s = true ∧
      (passesFour (.recctl 2 64) s = true ∧ s.units.recorder = .off ∧ 64 ≤ (64 : Byte).toNat) ∧
      passesFour (.reccfg 0 0 0 (Vector.replicate 8 0)) s = true ∧
      (passesFour (.reccfg 1 1 8 (Vector.replicate 8 45)) s = true ∧
        ∃ j : Fin 8, j.val < (8 : Byte).toNat ∧ 45 ≤ (Vector.replicate 8 (45 : Byte))[j].toNat) ∧
      passesFour (.winset 2 0 0 196) s = true ∧ passesFour (.alertmask 512) s = true) := by decide

theorem witness_StatesNotMet :
    HoldGoesOn base ∧
    (passesFour (.cntset 44 0) (banks .running base) = true ∧ (banks .running base).units.bank (bankOf 44) ≠ .ready) ∧
    (passesFour (.bankctl 0x57) base = true ∧ ((0x57 : Byte) >>> 4) &&& ~~~(0x57 : Byte) = 0 ∧
      ∃ b ∈ [Bank.edge, .dwell, .link, .tally], base.units.bank b = .locked ∧ (0x57 : Byte).getLsbD b.index = true) ∧
    (passesFour (.recctl 3 0) base = true ∧ base.units.recorder = .locked) ∧
    (let s := { base with units.recorder := .ready };
      passesFour (.recctl 3 0) s = true ∧ s.units.recorder = .ready ∧ s.recorder.cursor.placed = false) ∧
    (passesFour (.reccfg 1 0x0F 8 (Vector.replicate 8 44)) (recRunning 0 base) = true ∧ (0x0F : Byte).toNat < 16 ∧
      (∀ j : Fin 8, j.val < (8 : Byte).toNat → (Vector.replicate 8 (44 : Byte))[j].toNat < 45) ∧
      (recRunning 0 base).units.recorder = .running) ∧
    (passesFour (.release 10) (recRunning 0 base) = true ∧ (recRunning 0 base).recorder.cursor.placed = true ∧
      (recRunning 0 base).recorder.cursor.blocked = false ∧ (recRunning 0 base).recorder.cursor.leaf = 10) ∧
    (passesFour .sealnow (recRunning 0 base) = true ∧ (recRunning 0 base).recorder.cursor.offset = 0) ∧
    (passesFour (.mark 0 0) base = true ∧ base.units.recorder ≠ .running) := by decide

theorem witness_RefusedCommandChangesNothing :
    isCommand (.hold 9) = true ∧ linkUp (locked base) = true ∧ HoldGoesOn (locked base) ∧
    exec (.hold 9) (locked base) = .next (after (.hold 9) (locked base)) ∧
    (after (.hold 9) (locked base)).lastResult ≠ .done :=
  ⟨by decide, by decide, by decide, rfl, by decide⟩

theorem witness_HoldCountsCommands :
    isCommand .nop = true ∧
    (linkUp (held 2 base) = true ∧ (held 2 base).hold.active = true ∧ 2 ≤ (held 2 base).hold.remaining) ∧
    (linkUp (held 1 base) = true ∧ (held 1 base).hold.active = true ∧ (held 1 base).hold.remaining ≤ 1 ∧
      ((held 1 base).recorder.deferred = false → (held 1 base).recorder.missed = 0)) := by decide

theorem witness_SettingsCommands :
    HoldGoesOn base ∧ passesFour (.tbset 255) base = true ∧
    (passesFour (.incfg 15 511) base = true ∧ (511 : Half).toNat < 512) ∧
    (passesFour (.cntset 44 1) (banks .ready base) = true ∧ (banks .ready base).units.bank (bankOf 44) = .ready) ∧
    (passesFour (.wrapcfg 15) base = true ∧ (15 : Byte).toNat < 16) ∧
    passesFour (.alertmask 511) base = true := by decide

/-- The last address of FREEZE and the last leaf of a SEALS walk. -/
theorem witness_WinsetPlacesThePointer :
    passesFour (.winset (spaceCode .freeze) (walkCode .oneshot) 0 195) base = true ∧ HoldGoesOn base ∧
    (0 : Half).toNat ≤ (195 : Half).toNat ∧ (Walk.oneshot = .seals → Space.freeze = .capture ∧ (195 : Half).toNat ≤ 255) ∧
    (Walk.oneshot ≠ .seals → (Space.freeze = .directory → (195 : Half).toNat ≤ 255) ∧
      (Space.freeze = .freeze → (195 : Half).toNat ≤ 195)) ∧
    (passesFour (.winset (spaceCode .capture) (walkCode .seals) 255 255) base = true ∧ (255 : Half).toNat ≤ 255) := by
  decide

theorem witness_EvaluationOfGrants :
    base.recorder.queue = [] ∧
    (passesFour (.grant 31 31 0xEF) base = true ∧ (31 : Byte).toNat < 32) ∧
    (let s := { base with permitStab := 7 };
      s.recorder.queue = [] ∧ ticking s = true ∧ true ≠ s.permit ∧ s.permitStab = 7) ∧ base.permitStab ≠ 7 := by decide

theorem witness_BankctlMovesAllBanks :
    passesFour (.bankctl 0x57) (banks .off base) = true ∧ HoldGoesOn (banks .off base) ∧
    ((0x57 : Byte) >>> 4) &&& ~~~(0x57 : Byte) = 0 ∧
    (∀ b ∈ [Bank.edge, .dwell, .link, .tally], (banks .off base).units.bank b = .locked →
      (0x57 : Byte).getLsbD b.index = false) := by decide

theorem witness_BanksnapCopiesBanks :
    passesFour (.banksnap 0x1F) (banks .running base) = true ∧
    (0x1F : Byte).toNat < 32 ∧ (0x1F : Byte) &&& 0x0F ≠ 0 ∧ (banks .running base).freeze.wf 196 := by decide

theorem witness_RecctlMovesAndReccfgStores :
    HoldGoesOn base ∧ (passesFour (.recctl 1 0) base = true ∧ base.units.recorder = .locked) ∧
    (let s := { recRunning 8 base with units.recorder := .ready, recorder.countdown := none };
      passesFour (.recctl 2 0) s = true ∧ passesFour (.recctl 3 0) s = true ∧ s.units.recorder = .ready ∧
      s.recorder.cursor.placed = true) ∧
    (let s := recRunning 8 base;
      HoldGoesOn s ∧ passesFour (.recctl 3 0) s = true ∧ passesFour (.recctl 2 0) s = true ∧
      passesFour (.recctl 1 0) s = true ∧ s.units.recorder = .running ∧ s.recorder.queue = []) ∧
    (passesFour (.reccfg 1 15 8 (Vector.replicate 8 44)) base = true ∧ (1 : BitVec 24) ≠ 0 ∧ (15 : Byte).toNat < 16 ∧
      (8 : Byte).toNat ≤ 8 ∧ ((15 : Byte).getLsbD 1 = true → (8 : Byte) ≠ 0) ∧
      (∀ j : Fin 8, j.val < (8 : Byte).toNat → (Vector.replicate 8 (44 : Byte))[j].toNat < 45)) := by decide

/-- A STORE and a LINK to a STORE resolve; the VOID entry 5 does not. -/
theorem witness_RecctlStartsOrRefuses :
    (let s := recOff base;
      passesFour (.recctl 3 ((0 : BitVec 6).setWidth 8)) s = true ∧ s.units.recorder = .off ∧
      s.capture.wf 65536 ∧ entryByte s.directory 0 0 = 1 ∧
      (entryByte s.directory 0 1).toNat + (entryByte s.directory 0 2).toNat + 1 ≤ 256 ∧
      isSealed s (entryByte s.directory 0 1) = false ∧
      entryByte s.directory 2 0 = 2 ∧ (entryByte s.directory 2 1).setWidth 6 = (0 : BitVec 6) ∧
      passesFour (.recctl 2 ((5 : BitVec 6).setWidth 8)) s = true ∧ entryByte s.directory 5 0 = 0) ∧
    isSealed { recBlocked base with units.recorder := .off } 10 = true := by decide

theorem witness_ReleaseAndNotemark :
    (let s := recBlocked base;
      s.capture.wf 65536 ∧
      (passesFour (.release 10) s = true ∧ (leafByte s 10 240).getLsbD 0 = true ∧ s.recorder.cursor.placed = true ∧
        s.recorder.cursor.blocked = true ∧ s.recorder.cursor.leaf = 10) ∧
      (passesFour (.release 255) s = true ∧ (leafByte s 255 240).getLsbD 0 = false ∧ s.recorder.cursor.leaf ≠ 255) ∧
      passesFour (.notemark 10) s = true) ∧
    (let s := { base with capture := Memory.writeAll [] (256 * 255 + 240) [3] };
      s.capture.wf 65536 ∧ passesFour (.release 255) s = true ∧
      (leafByte s 255 240).getLsbD 0 = true ∧ s.recorder.cursor.placed = false) := by decide

theorem witness_SealnowSealsTheLeaf :
    let s := recRunning 240 base
    passesFour .sealnow s = true ∧ s.capture.wf 65536 ∧
    s.recorder.cursor.placed = true ∧ s.recorder.cursor.blocked = false ∧ 0 < s.recorder.cursor.offset ∧
    s.recorder.cursor.offset ≤ 240 := by decide

/-- What the clauses share. -/
abbrev sealsLast (s : State) : Prop :=
  passesFour .sealnow s = true ∧ s.capture.wf 65536 ∧ s.recorder.queue = [] ∧ RunOk s ∧
  s.recorder.cursor.placed = true ∧ s.recorder.cursor.blocked = false ∧ 0 < s.recorder.cursor.offset ∧
  s.recorder.cursor.offset ≤ 240 ∧ s.units.recorder = .running

/-- A further leaf of the run; then the last leaf before entry 63's end, a STORE, a LINK to a STORE out of range, a LINK to
a LINK, a STOP and a VOID entry. -/
theorem witness_SealedLeafAdvances :
    (sealsLast (recRunning 8 base) ∧ entryByte ring 0 1 + entryByte ring 0 2 = 11) ∧
    (sealsLast (lastLeaf 63 [1, 5, 0, 0])) ∧
    (sealsLast (lastLeaf 0 [1, 5, 0, 0, 1, 255, 0, 0]) ∧
      entryByte (lastLeaf 0 [1, 5, 0, 0, 1, 255, 0, 0]).directory 1 0 = 1) ∧
    (sealsLast (lastLeaf 0 [1, 5, 0, 0, 2, 2, 0, 0, 1, 255, 1, 0]) ∧
      entryByte (lastLeaf 0 [1, 5, 0, 0, 2, 2, 0, 0, 1, 255, 1, 0]).directory 2 0 = 1) ∧
    (sealsLast (lastLeaf 0 [1, 5, 0, 0, 2, 2, 0, 0, 2, 0, 0, 0]) ∧
      entryByte (lastLeaf 0 [1, 5, 0, 0, 2, 2, 0, 0, 2, 0, 0, 0]).directory 2 0 = 2) ∧
    (sealsLast (lastLeaf 0 [1, 5, 0, 0, 3, 0, 0, 0]) ∧
      entryByte (lastLeaf 0 [1, 5, 0, 0, 3, 0, 0, 0]).directory 1 0 = 3) ∧
    (sealsLast (lastLeaf 0 [1, 5, 0, 0, 4, 0, 0, 0]) ∧
      entryByte (lastLeaf 0 [1, 5, 0, 0, 4, 0, 0, 0]).directory 1 0 = 4) :=
  ⟨by decide, by decide, by decide, by decide, by decide, by decide, by decide⟩

/-- The record fits exactly, it does not fit, and the writer is blocked. -/
theorem witness_MarkOffersItsRecord :
    (let s := recRunning 232 base;
      passesFour (.mark 0 0) s = true ∧ s.units.recorder = .running ∧ NothingWaits s ∧ WriterReady s ∧
      s.recorder.cursor.blocked = false ∧ s.recorder.cursor.offset + 8 ≤ 240) ∧
    (let s := recRunning 236 base;
      passesFour (.mark 0 0) s = true ∧ s.units.recorder = .running ∧ NothingWaits s ∧ WriterReady s ∧
      s.recorder.cursor.blocked = false ∧ 240 < s.recorder.cursor.offset + 8) ∧
    (let s := recBlocked base;
      passesFour (.mark 0 0) s = true ∧ s.units.recorder = .running ∧ NothingWaits s ∧ WriterReady s ∧
      s.recorder.cursor.blocked = true) :=
  ⟨by decide, by decide, by decide⟩

set_option maxRecDepth 8000 in
/-- R125, R126, TALLY counter 43: a MARK that meets the end of the directory is discarded with one count. -/
theorem test_mark_discarded_at_a_fault :
    let s := { lastLeaf 63 [1, 5, 0, 0] with units.tally := .running, recorder.cursor.offset := 236 }
    (after (.mark 3 0x1234) s).counters.value[43] = 1 ∧ (after (.mark 3 0x1234) s).counters.value[44] = 1 ∧
    (after (.mark 3 0x1234) s).recorder.cursor.placed = false ∧ (after (.mark 3 0x1234) s).alerts.faultKind = .endOfDirectory := by
  decide

/-- A full queue, 6 and 7 records with a loss tally at its end, 7 without one. -/
theorem witness_OfferRule :
    (let q (n : Nat) (tally : Half) : State :=
      { recRunning 0 base with
        recorder.queue := List.replicate n (.mark 0 0 0), recorder.lossCount := tally, recorder.lossTime := some 9 };
      8 ≤ (q 8 0).recorder.queue.length ∧
      ((q 6 65535).recorder.queue.length < 7 ∧ (q 6 65535).recorder.lossCount ≠ 0) ∧
      ((q 7 65535).recorder.queue.length = 7 ∧ (q 7 65535).recorder.lossCount ≠ 0) ∧
      ((q 7 0).recorder.queue.length < 8 ∧ (q 7 0).recorder.lossCount = 0)) := by decide

theorem witness_SnapshotBytes :
    ConfigOk base ∧
    (let s := { base with recorder.config := { base.recorder.config with extended := true, k := 8 } };
      ConfigOk s ∧ s.recorder.config.extended = true ∧ (0 : Fin 8).val < s.recorder.config.k ∧
      s.recorder.config.slots[(0 : Fin 8)].toNat = (0 : Fin 45).val) ∧
    base.recorder.config.k ≤ (0 : Fin 8).val := by decide

theorem witness_TickAdvances :
    (base.recorder.queue = [] ∧ WriterReady (recRunning 8 base) ∧ (recRunning 8 base).recorder.queue = []) ∧
    ticking base = true ∧ 1 ≤ base.supervisor.e ∧ ticking (dogAt 1023 .warned 0 base) = true ∧
    fires (dogAt 1023 .warned 0 base).supervisor = true := by decide

/-- Without a permit change, and with one that revokes the banks. -/
theorem witness_TickCounts :
    (ticking (banks .running base) = true ∧ 1 ≤ (banks .running base).supervisor.e ∧
      (banks .running base).recorder.queue = [] ∧ permitFlips false (banks .running base) = false) ∧
    (let s := { banks .running base with guardMask := 0x1F, permit := true, permitStab := 7 };
      ticking s = true ∧ 1 ≤ s.supervisor.e ∧ s.recorder.queue = [] ∧ permitFlips false s = true) := by decide

theorem witness_SupervisorEvents :
    NothingWaits base ∧ ticking base = true ∧ 1 ≤ base.supervisor.e ∧
    warns (dogAt 511 .quiet 0 base).supervisor = true ∧ fires (dogAt 1023 .warned 0 base).supervisor = true ∧
    pulseEnds (dogAt 1024 .pulsing 1 base).supervisor = true ∧ warns base.supervisor = false ∧
    fires base.supervisor = false ∧ pulseEnds base.supervisor = false := by decide

theorem witness_InputEdgeCountsAndTriggers :
    ticking (bouncing 2 base) = true ∧ NothingWaits (bouncing 2 base) ∧
    hasEdge true (bouncing 2 base).inputs[5] = true ∧ hasEdge true (bouncing 1 base).inputs[5] = false := by decide

theorem witness_SamplingPointSnapsOrDefers :
    (let s := { recRunning 0 base with recorder.countdown := some 1 };
      ticking s = true ∧ NothingWaits s ∧ s.units.recorder = .running ∧ s.recorder.countdown = some 1 ∧
      s.recorder.config.snap = true ∧ s.hold.active = false ∧ (held 2 s).hold.active = true) ∧
    (let s := { recRunning 0 base with recorder.countdown := some 1, recorder.config.snap := false };
      s.recorder.config.snap = false) ∧
    (recRunning 0 base).recorder.countdown ≠ some 1 := by decide

theorem witness_HoldEndEvents :
    (let s := { recRunning 228 base with
        hold := { active := true, remaining := 1, ticks := 255, alertLow := false }, recorder.deferred := true };
      ticking s = true ∧ s.hold.ticks = 255 ∧ linkUp s = true ∧ s.hold.remaining = 1 ∧ s.hold.active = true ∧
      NothingWaits s ∧ WriterReady s ∧ s.recorder.queue = [] ∧ s.recorder.deferred = true ∧
      s.units.recorder = .running ∧ s.recorder.config.extended = false ∧ HasRoom 12 s ∧ s.capture.wf 65536) ∧
    (held 1 base).recorder.deferred = false := by decide

theorem witness_WakeResumes :
    (linkUp base = true ∧ base.power = .run) ∧ linkUp (after .pinResetAssert (asleep base)) = false ∧
    (let s := wakeOn7 (asleep base);
      linkUp s = true ∧ s.power = .standby ∧ s.recorder.queue = [] ∧ s.units.recorder ≠ .running ∧
      s.link.parser = .idle) ∧
    (let s := wakeOn7 (asleep (recRunning 232 base));
      linkUp s = true ∧ s.power = .standby ∧ NothingWaits s ∧ WriterReady s ∧ HasRoom 8 s ∧ s.capture.wf 65536 ∧
      s.units.recorder = .running ∧ s.link.parser = .idle ∧
      (0x80 : Half).getLsbD (7 : Fin 16) = true ∧ s.inputs[(7 : Fin 16)].wake = true ∧
      ∀ m : Fin 16, m < 7 → ¬((0x80 : Half).getLsbD m = true ∧ s.inputs[m].wake = true)) := by decide

theorem witness_PowerOnResetEvents :
    (sweeping 65791).life = .init ∧ (sweeping 65791).sweep < 65792 ∧ 65792 ≤ (sweeping 65792).sweep := by decide

theorem witness_PinResetEvents :
    linkUp (committed base) = true ∧ linkUp (held 2 base) = true ∧ (sweeping 0).life = .init ∧
      (after .pinResetAssert base).life = .heldInReset := by decide

/-- Accepted with the least and the greatest E, refused while PULSING, and the last command of a hold. -/
theorem witness_WdsetSetsTheTiming :
    linkUp base = true ∧ HoldGoesOn base ∧ (10 : Byte).toNat = 10 ∧ (24 : Byte).toNat = 24 ∧
    linkUp (dogAt 1024 .pulsing 20 base) = true ∧ linkUp (held 1 base) = true ∧ ¬HoldGoesOn (held 1 base) := by decide

theorem witness_WdkickKicks :
    (linkUp base = true ∧ base.locked = false ∧ base.hold.active = false ∧ base.supervisor.state ≠ .off ∧
      base.supervisor.phase ≠ .pulsing) ∧
    (linkUp (dogAt 1024 .pulsing 20 base) = true ∧ (dogAt 1024 .pulsing 20 base).supervisor.phase = .pulsing) := by decide

/-- Accepted, and as the last command of a hold. -/
theorem witness_AlertackRemovesCauses :
    linkUp base = true ∧ HoldGoesOn base ∧ linkUp (held 1 base) = true ∧ ¬HoldGoesOn (held 1 base) := by decide

theorem witness_StepKeepsStoresAndWindow :
    StoresOk base ∧ WindowOk base ∧ step base = .next (refclkPeriod base) := ⟨by decide, by decide, rfl⟩

/-- INIT and no supply, with the recorder as they leave it. -/
theorem test_quiet_before_open :
    QuietBeforeOpen (sweeping 5) ∧ (sweeping 5).life = .init ∧ QuietBeforeOpen (after .lossOfSupply base) := by decide

/-- The invariant holds of a recorder that writes, and a step from there runs MARK. -/
theorem witness_StepKeepsRecorder :
    let s := { recRunning 8 base with
      grantMask := 0x1F, pending := [.mark 1 2], capture := [] }
    Inv s ∧ step s = .next (after (.mark 1 2) (s.withPending [])) :=
  ⟨{ stores := by decide, idleBanks := by decide, cursor := by decide, run := by decide, leaf := by decide
     queue := by decide, loss := by decide, sampling := by decide, config := by decide, hold := by decide
     causes := by decide, faultDetail := by decide, autoClear := by decide, supervisor := by decide
     pins := by decide, standby := by decide, window := by decide, quiet := by decide }, rfl⟩

/-- The invariant holds after reset, and a step from there runs COMMIT. -/
theorem witness_StepKeepsBanksAndCauses_and_StepKeepsHoldSupervisorAndPins :
    let s := { base with pending := [.commit 0xEE] }
    Inv s ∧ step s = .next (after (.commit 0xEE) base) :=
  ⟨{ stores := by decide, idleBanks := by decide, cursor := by decide, run := by decide, leaf := by decide
     queue := by decide, loss := by decide, sampling := by decide, config := by decide, hold := by decide
     causes := by decide, faultDetail := by decide, autoClear := by decide, supervisor := by decide
     pins := by decide, standby := by decide, window := by decide, quiet := by decide }, rfl⟩

theorem witness_EventBoundary :
    let s := { base with pending := [.commit 0xEE] }
    isEvent (.commit 0xEE) = true ∧ QueueEmpty s ∧ AlertPinOk s ∧ step s = .next (after (.commit 0xEE) base) :=
  ⟨by decide, by decide, by decide, rfl⟩

theorem witness_OnlyNamedRowsChange :
    exec (.commit 0xEE) base = .next (after (.commit 0xEE) base) ∧ isReset (.commit 0xEE) = false ∧
    isIncoming (.commit 0xEE) = false := ⟨rfl, by decide, by decide⟩

end Sys2Proof.Tests
end

section
/-! SUPPORT. An offered count in the terms of `Counted` (R76, R85, R86), and the end of a transaction (R9, R15). -/

namespace Sys2Proof.Machine

open Sys2Proof.Safety

/-! ## An offered count -/

/-- What an offered count is as a whole next state: the counters and the pending set alone can differ. -/
theorem offerCount_shape (c : Fin 45) (s : State) :
    ∃ counters raised, offerCount c s =
      { s with counters := counters, alerts := { s.alerts with raised := raised } } := by
  unfold offerCount
  split_ifs
  · exact ⟨_, _, rfl⟩
  · exact ⟨s.counters, s.alerts.raised, rfl⟩

/-- A counter is carried to 0 exactly from its greatest value (R85). -/
theorem word_add_one_eq_zero_iff (v : Word) : v + 1 = 0 ↔ v = 0xFFFFFFFF := by
  constructor <;> intro h <;> bv_omega

/-- A cause raised on two grounds is raised once (R144). -/
theorem raised_on_either_ground (p q : Prop) [Decidable p] [Decidable q] (raised bit : Half) :
    (if p then (if q then raised ||| bit else raised) ||| bit else if q then raised ||| bit else raised) =
      if p ∨ q then raised ||| bit else raised := by
  by_cases hp : p <;> by_cases hq : q <;> simp [hp, hq, BitVec.or_assoc]

/-- Where no counter is offered a count, the counters and the pending set stand as they are. -/
theorem counted_of_none_offered {offered : Fin 45 → Bool} (s : State) (h : ∀ k, offered k = false) :
    Counted offered s s :=
  ⟨fun k => by simp [h k], fun k => by simp [h k], rfl, by simp [h]⟩

/-- One more count, offered to a counter that has not yet been offered one at this event. COUNTER_WRAP raised by its
wrap and by another's coalesces. -/
theorem counted_offerCount {offered : Fin 45 → Bool} {e t : State} {c : Fin 45} (h : Counted offered e t)
    (hunits : t.units = e.units) (hc : offered c = false) :
    Counted (fun k => k == c || offered k) e (offerCount c t) := by
  obtain ⟨hvalue, hwrapped, henable, hraised⟩ := h
  have hvc : t.counters.value[c] = e.counters.value[c] := by simpa [hc] using hvalue c
  refine ⟨fun k => ?_, fun k => ?_, ?_, ?_⟩
  · rw [offerCount_value, hunits, hvalue]
    by_cases hk : k = c
    · subst hk; simp [hc]
    · simp [hk]
  · simp only [offerCount_wrapped, hunits, hvc, word_add_one_eq_zero_iff, Bool.or_eq_true, hwrapped, decide_eq_true_eq]
    by_cases hk : k = c
    · subst hk; simp [hc]
    · simp [hk]
  · rw [offerCount_wrapAlert, henable]
  · simp only [offerCount_raised, hunits, hvc, word_add_one_eq_zero_iff, henable, hraised, Cause.bit,
      raised_on_either_ground, Bool.or_eq_true, beq_iff_eq, or_and_right, exists_or, exists_eq_left]

/-- One count offered to one counter (R76, R85, R86). -/
theorem counted_offerCount_self (c : Fin 45) (s : State) : Counted (fun k => k == c) s (offerCount c s) := by
  have hnone := counted_of_none_offered (offered := fun _ => false) s fun _ => rfl
  simpa only [Bool.or_false] using counted_offerCount (c := c) hnone rfl rfl

/-! ## The end of a transaction -/

/-- The line and CS# at the end of a transaction, as a whole next state (R1, R2, R3). -/
theorem leaveBus_eq (s : State) : leaveBus s = { s with
    inPins := { s.inPins with csLow := if s.straps.i2c then s.inPins.csLow else false }
    link := { s.link with transfer := .none, out := none, ack := false } } := by
  unfold leaveBus setCs
  split_ifs <;> rfl

/-- A transaction's end for the command in progress: truncated inside a command, and nothing otherwise (R15). -/
def truncateInside (s : State) : State := if insideCommand s.link.parser then truncate s else s

/-- With a transaction open the parser's share of its end is the truncation, the way back to IDLE, one count to LINK
counter 32 and ALERT# (R9, R15). -/
theorem endTransaction_of_open {s : State} (h : s.link.parser ≠ .idle) :
    endTransaction s = evalAlert (offerCount 32 (setParser .idle (truncateInside s))) := by
  unfold endTransaction truncateInside
  cases hp : s.link.parser with
  | idle => exact absurd hp h
  | collect | skip | expectHeader | writeStream | readStream | ignore => rfl

/-- With no transaction open, or the link down, only the bus is left (R7, R9). -/
theorem transactionEnds_of_none_open {s : State} (h : linkUp s = false ∨ s.link.parser = .idle) :
    transactionEnds s = leaveBus s := by
  unfold transactionEnds endTransaction
  rcases h with h | h <;> simp [h]

/-- FRAME_ERROR and the one count to LINK counter 35, inside a command alone (R15). -/
theorem counted_truncateInside (s : State) :
    Counted (fun k => insideCommand s.link.parser && k == 35)
      { s with alerts.raised := if insideCommand s.link.parser then s.alerts.raised ||| 0x100 else s.alerts.raised }
      (truncateInside s) := by
  unfold truncateInside
  cases insideCommand s.link.parser with
  | false => exact counted_of_none_offered s fun _ => rfl
  | true => exact counted_offerCount_self 35 (raise .frameError { s with lastResult := .truncated })

/-- Truncation touches the last result, the counters and the pending set alone (R15). -/
theorem truncateInside_shape (s : State) :
    ∃ counters raised, truncateInside s = { s with
      lastResult := if insideCommand s.link.parser then .truncated else s.lastResult
      counters := counters
      alerts := { s.alerts with raised := raised } } := by
  unfold truncateInside
  cases insideCommand s.link.parser with
  | false => exact ⟨s.counters, s.alerts.raised, rfl⟩
  | true =>
    obtain ⟨counters, raised, hcount⟩ := offerCount_shape 35 (raise .frameError { s with lastResult := .truncated })
    exact ⟨counters, raised, hcount⟩

/-- The whole end of an open transaction: what differs from the released line is the result, the parser, the counters,
the pending set and ALERT#. -/
theorem leaveBus_offerCount_truncateInside (s : State) :
    let t := leaveBus (evalAlert (offerCount 32 (setParser .idle (truncateInside s))))
    t = { s with
      inPins := { s.inPins with csLow := if s.straps.i2c then s.inPins.csLow else false }
      lastResult := if insideCommand s.link.parser then .truncated else s.lastResult
      link := { s.link with parser := .idle, transfer := .none, out := none, ack := false }
      counters := t.counters
      alerts := { s.alerts with raised := t.alerts.raised }
      outPins := { s.outPins with alertLow := t.outPins.alertLow } } := by
  obtain ⟨counters, raised, htrunc⟩ := truncateInside_shape s
  obtain ⟨counters', raised', hcount⟩ := offerCount_shape 32 (setParser .idle (truncateInside s))
  rw [leaveBus_eq, hcount, htrunc]
  rfl

end Sys2Proof.Machine

open Sys2Proof Sys2Proof.Machine Sys2Proof.Safety

/-- Settles O10: the parser's share of the end is a truncation, one count and ALERT#, each a whole next state that the
lemmas above name, and the bus is left last. -/
theorem transactionEndCloses : Obligations.TransactionEndCloses := by
  unfold Obligations.TransactionEndCloses
  intro s
  refine ⟨fun hup hopen => ?_, fun hnone => ?_⟩
  · refine ⟨leaveBus (evalAlert (offerCount 32 (setParser .idle (truncateInside s)))), ?_, ?_, ?_, ?_⟩
    · show Host.Outcome.next (transactionEnds s) = _
      rw [transactionEnds, if_pos hup, endTransaction_of_open hopen]
    · have hunits : (truncateInside s).units = s.units := by
        obtain ⟨_, _, htrunc⟩ := truncateInside_shape s
        rw [htrunc]
      rw [leaveBus_eq]
      exact counted_offerCount (t := setParser .idle (truncateInside s)) (counted_truncateInside s) hunits
        (by simp)
    · rw [leaveBus_eq]
      rfl
    · exact leaveBus_offerCount_truncateInside s
  · show Host.Outcome.next (transactionEnds s) = _
    rw [transactionEnds_of_none_open hnone, leaveBus_eq]

end

section
/-! SUPPORT. The completion event of a command in the terms of `Answers` (R22, R23, R34): one lemma for every command
that the six checks (R21) answer. -/

namespace Sys2Proof.Machine

open Sys2Proof.Safety

/-! ## The LINK count -/

/-- The state after an offered count is determined by what `Counted` says of it and by its frame. -/
theorem eq_counted {offered : Fin 45 → Bool} {e t : State} (h : Counted offered e t)
    (hframe : ∃ counters raised, t = { e with counters := counters, alerts := { e.alerts with raised := raised } }) :
    t = counted offered e := by
  obtain ⟨⟨value, wrapped, enables⟩, raised, rfl⟩ := hframe
  obtain ⟨hvalue, hwrapped, henables, hraised⟩ := h
  have hvalues : value = (counted offered e).counters.value := by
    refine Vector.ext fun i hi => ?_
    simpa [counted] using hvalue ⟨i, hi⟩
  have hwraps : wrapped = (counted offered e).counters.wrapped := by
    refine Vector.ext fun i hi => Bool.eq_iff_iff.mpr ?_
    simpa [counted, and_assoc] using hwrapped ⟨i, hi⟩
  have hcauses : raised = (counted offered e).alerts.raised := by
    simpa [counted, and_assoc] using hraised
  rw [hvalues, hwraps, hcauses, show enables = e.counters.wrapAlert from henables]
  rfl

theorem offerCount_eq_counted (c : Fin 45) (s : State) : offerCount c s = counted (fun k => k == c) s :=
  eq_counted (counted_offerCount_self c s) (offerCount_shape c s)

/-- `counted` is an instance of `Counted`, where one counter is offered the count. -/
theorem counted_counted_self (c : Fin 45) (s : State) :
    Counted (fun k => k == c) s (counted (fun k => k == c) s) := by
  simpa only [offerCount_eq_counted] using counted_offerCount_self c s

/-! ## The hold accounting -/

/-- The state after stage 4 of R22: the result is left and counted in its LINK counter (R23). -/
def resultCounted (r : Result) (e : State) : State :=
  counted (fun k => k == resultCounter r) { e with lastResult := r }

/-- Stages 5 to 7 of R22 follow stage 4. -/
theorem finishCommand_eq (held : Bool) (r : Result) (e : State) :
    finishCommand held r e =
      evalAlert (if held then holdAccounting (resultCounted r e) else resultCounted r e) := by
  unfold finishCommand resultCounted resultCounter
  rw [offerCount_eq_counted]

/-- The last command of a hold ends it, and the writer drains the queue (R34, R36). -/
theorem holdAccounting_of_last {s : State} (h : s.hold.remaining ≤ 1) : holdAccounting s = drain (endHold s) :=
  if_pos h

theorem holdAccounting_of_more {s : State} (h : ¬s.hold.remaining ≤ 1) :
    holdAccounting s = { s with hold := { s.hold with remaining := s.hold.remaining - 1 } } :=
  if_neg h

/-- With no deferred point and an empty queue, the end of a hold touches the hold alone (R36). -/
theorem drain_endHold_of_quiet {s : State} (hdeferred : s.recorder.deferred = false) (hqueue : s.recorder.queue = []) :
    drain (endHold s) =
      { s with hold := { active := false, remaining := 0, ticks := 0, alertLow := false } } := by
  have hend : endHold s =
      { s with hold := { active := false, remaining := 0, ticks := 0, alertLow := false } } :=
    if_neg (by simp [hdeferred])
  rw [hend, drain, hqueue, drainList, ← hqueue]

/-- The hold after a command (R34): untouched outside a hold, one command fewer inside it, and over after its last. -/
def holdAfter (before own : Hold) : Hold :=
  if before.active = true then
    if before.remaining ≤ 1 then { active := false, remaining := 0, ticks := 0, alertLow := false }
    else { own with remaining := before.remaining - 1 }
  else own

/-- Stage 5 of R22 touches the hold alone, unless the hold ends and has a record to store. -/
theorem accounted_eq {s t : State} (hhold : s.hold.active = true → t.hold = s.hold)
    (hquiet : HoldGoesOn s ∨ (t.recorder.deferred = false ∧ t.recorder.queue = [])) :
    (if s.hold.active = true then holdAccounting t else t) = { t with hold := holdAfter s.hold t.hold } := by
  unfold holdAfter
  split_ifs with hactive hlast
  · have ⟨hdeferred, hqueue⟩ := hquiet.resolve_left fun hgoes => by have := hgoes hactive; omega
    rw [holdAccounting_of_last (hhold hactive ▸ hlast), drain_endHold_of_quiet hdeferred hqueue]
  · rw [holdAccounting_of_more (hhold hactive ▸ hlast), hhold hactive]
  · rfl

/-! ## A command that answers -/

/-- A completion whose hold does not end, or ends with nothing to store, as a whole next state. -/
theorem completes_finishCommand {r : Result} {s e : State} (hhold : s.hold.active = true → e.hold = s.hold)
    (hquiet : HoldGoesOn s ∨ (e.recorder.deferred = false ∧ e.recorder.queue = [])) :
    Completes r s e (moveOn (finishCommand s.hold.active r e)) := by
  rw [finishCommand_eq, accounted_eq (t := resultCounted r e) hhold hquiet]
  refine ⟨?_, rfl, rfl⟩
  simp only [Bool.or_false]
  exact counted_counted_self (resultCounter r) { e with lastResult := r }

/-- HOLD_COMMANDS_DONE ends a hold that one command remains of, whatever the hold's other fields are (R34, R36). -/
theorem execHoldCommandsDone_of_one {s : State} (hup : linkUp s = true) (hactive : s.hold.active = true)
    (hone : s.hold.remaining = 1) : exec .holdCommandsDone s = .next (evalAlert (drain (endHold s))) := by
  show Host.Outcome.next _ = _
  rw [if_pos (by simp [hup, hactive, hone]), holdAccounting_of_last hone.le]

/-- A command whose event is stages 3 to 7 of R22 after an effect that keeps the link up and an active hold as it was.
The end of a hold overwrites all of it, so one remaining command and none end it alike. -/
theorem answers_of_finishCommand {c : Instr} {r : Result} {s e : State}
    (hexec : exec c s = .next (moveOn (finishCommand s.hold.active r e))) (hup : linkUp e = true)
    (hhold : s.hold.active = true → e.hold = s.hold) : Answers c r s e := by
  refine ⟨fun hquiet => ⟨_, hexec, completes_finishCommand hhold hquiet⟩, fun hlast => ?_⟩
  obtain ⟨hactive, hfew⟩ : s.hold.active = true ∧ s.hold.remaining ≤ 1 := by
    simpa [Nat.lt_succ_iff] using hlast
  refine ⟨_, execHoldCommandsDone_of_one hup (hhold hactive ▸ hactive) rfl, ?_⟩
  rw [hexec, finishCommand_eq, if_pos hactive,
    holdAccounting_of_last (s := resultCounted r e) (hhold hactive ▸ hfew)]
  rfl

/-- The same of a command whose effect runs only where it is accepted (R22). An effect on the hold itself is HOLD's,
which is accepted outside a hold alone (R33). -/
theorem answers_of_complete {c : Instr} {r : Result} {s : State} {effect : State → State}
    (hexec : exec c s = .next (complete r effect s)) (hup : linkUp s = true) (hupEffect : linkUp (effect s) = true)
    (hhold : r = .done → s.hold.active = true → (effect s).hold = s.hold) :
    Answers c r s (if r = .done then effect s else s) := by
  rw [complete_of_linkUp hup] at hexec
  refine answers_of_finishCommand hexec ?_ fun hactive => ?_
  · split_ifs
    · exact hupEffect
    · exact hup
  · split_ifs with hdone
    · exact hhold hdone hactive
    · rfl

end Sys2Proof.Machine

open Sys2Proof Sys2Proof.Machine Sys2Proof.Safety

/-- Settles O19: check 1 alone can refuse NOP, and it has no effect. -/
theorem nopDoesNothing : Obligations.NopDoesNothing := by
  unfold Obligations.NopDoesNothing
  intro s hup
  refine ⟨rfl, rfl, ?_⟩
  have hverdict : verdict {} true true none s = if s.locked then .locked else .done := by simp [verdict]
  simpa only [hverdict, id, ite_self] using answers_of_complete (c := .nop) (effect := id) rfl hup hup fun _ _ => rfl

/-- Settles O20: UNLOCK passes check 1, and its effect is on the lock alone. -/
theorem unlockNeedsItsGuard : Obligations.UnlockNeedsItsGuard := by
  unfold Obligations.UnlockNeedsItsGuard
  intro g s hup r
  refine ⟨rfl, rfl, ?_⟩
  have hverdict : verdict { passesLock := true, guarded := true } (guardOk 0x14 g) true none s = r := by
    simp [verdict, guardOk, r]
  rw [← hverdict]
  exact answers_of_complete (effect := fun t => { t with locked := false }) rfl hup hup fun _ _ => rfl

/-- Settles O21: after COMMIT the life cycle is in COMMITTED, so the link stays up. -/
theorem commitFreezes : Obligations.CommitFreezes := by
  unfold Obligations.CommitFreezes
  intro g s hup r
  refine ⟨rfl, rfl, ?_⟩
  have hverdict : verdict { guarded := true, preCommit := true } (guardOk 0x11 g) true none s = r := by
    simp [verdict, guardOk, r]
  simp only [ne_eq, ite_not, ← hverdict]
  exact answers_of_complete (effect := commitEffect) rfl hup rfl fun _ _ => rfl

/-- Settles O22: an accepted HOLD finds no hold active, so it does not count toward the one it opens. -/
theorem holdOpens : Obligations.HoldOpens := by
  unfold Obligations.HoldOpens
  intro n s hup r
  refine ⟨rfl, rfl, ?_⟩
  have hverdict : verdict { isHold := true } true (n != 0 && n.toNat ≤ 4) none s = r := by
    simp [verdict, r]
  simp only [ne_eq, ite_not, ← hverdict]
  refine answers_of_complete (effect := holdEffect n) rfl hup hup fun hdone hactive => ?_
  obtain ⟨_, _, hheld, _⟩ := (verdict_done_iff _ _ _ _ _ (by simp)).mp hdone
  exact absurd ⟨hactive, .inr rfl⟩ hheld

end

section
/-! SUPPORT. ALERTACK's operand check and its effect, in the bits of its mask (R149, R152). -/

namespace Sys2Proof.Machine

/-- The operand check reads bits 15 to 9 (R149): ANDing with FE00h shifts the other nine out and back in as zeros. -/
theorem causeMaskOk_iff (mask : Half) : causeMaskOk mask = true ↔ mask.extractLsb' 9 7 = 0 := by
  have hshift : mask &&& (0xFE00 : Half) = mask >>> 9 <<< 9 := by
    rw [BitVec.shiftLeft_ushiftRight]
    rfl
  rw [causeMaskOk, beq_iff_eq, hshift, ← BitVec.setWidth_ushiftRight_eq_extractLsb]
  bv_omega

/-- CHAIN_FAULT is bit 0 of a cause mask. -/
theorem and_chainFault_bit_ne_zero (mask : Half) : (mask &&& Cause.chainFault.bit != 0) = mask.getLsbD 0 := by
  have hbit : mask &&& Cause.chainFault.bit = (BitVec.ofBool (mask.getLsbD 0)).setWidth 16 :=
    BitVec.and_one_eq_setWidth_ofBool_getLsbD
  rw [hbit]
  cases mask.getLsbD 0 <;> rfl

/-- ALERTACK's effect as a whole next state: the alert unit alone differs (R149). -/
theorem alertackEffect_eq (mask : Half) (s : State) :
    alertackEffect mask s = { s with alerts := { s.alerts with
      raised := s.alerts.raised &&& ~~~mask
      faultKind := if mask.getLsbD 0 then .none else s.alerts.faultKind
      faultEntry := if mask.getLsbD 0 then 0 else s.alerts.faultEntry } } := by
  unfold alertackEffect
  rw [and_chainFault_bit_ne_zero]
  cases mask.getLsbD 0 <;> rfl

end Sys2Proof.Machine

open Sys2Proof Sys2Proof.Machine Sys2Proof.Safety

/-- Settles O31: the lock and the operand check alone can refuse ALERTACK, and its effect is on the alert unit alone,
so the link and a hold stand as they were. -/
theorem alertackRemovesCauses : Obligations.AlertackRemovesCauses := by
  unfold Obligations.AlertackRemovesCauses
  intro mask s hup r
  refine ⟨rfl, rfl, ?_⟩
  have hverdict : verdict {} true (causeMaskOk mask) none s = r := by
    simp [verdict, causeMaskOk_iff, ← Bool.not_eq_true, r]
  have heffect := alertackEffect_eq mask s
  simp only [ne_eq, ite_not, ← hverdict, ← heffect]
  exact answers_of_complete (effect := alertackEffect mask) rfl hup (heffect ▸ hup) fun _ _ => heffect ▸ rfl

end

section
/-! SUPPORT. WDSET's operand check and its effect, WDKICK's effect, and a completion event at which the effect offers a
count of its own (R22, R156, R157). -/

namespace Sys2Proof.Machine

open Sys2Proof.Safety

/-- The flags' reserved bits are bits 7 to 1 (R156): ANDing with FEh shifts bit 0 out and back in as a zero. -/
theorem and_reservedFlags_eq_zero_iff (flags : Byte) : flags &&& 0xFE = 0 ↔ flags.extractLsb' 1 7 = 0 := by
  have hshift : flags &&& (0xFE : Byte) = flags >>> 1 <<< 1 := by
    rw [BitVec.shiftLeft_ushiftRight]
    rfl
  rw [hshift, ← BitVec.setWidth_ushiftRight_eq_extractLsb]
  bv_omega

/-- The operands that WDSET refuses (R156). -/
theorem wdsetOperands_eq_false_iff (e w flags : Byte) :
    wdsetOperands e w flags = false ↔ e.toNat < 10 ∨ 24 < e.toNat ∨ w = 0 ∨ flags.extractLsb' 1 7 ≠ 0 := by
  rw [ne_eq, ← and_reservedFlags_eq_zero_iff]
  simp only [wdsetOperands, Bool.and_eq_false_iff, decide_eq_false_iff_not, not_le, bne_eq_false_iff_eq,
    beq_eq_false_iff_ne, ne_eq, or_assoc]

/-- WDSET's effect as a whole next state: the supervisor alone differs, and only a running one begins a new period
(R156). -/
theorem wdsetEffect_eq (e w flags : Byte) (s : State) :
    wdsetEffect e w flags s = { s with supervisor := { s.supervisor with
      e := e.toNat, w := w, warn := flags.getLsbD 0
      count := if s.supervisor.state = .off then s.supervisor.count else 0
      phase := if s.supervisor.state = .off then s.supervisor.phase else .quiet } } := by
  unfold wdsetEffect Supervisor.running
  by_cases hoff : s.supervisor.state = .off <;> simp [hoff]

/-- Outside a hold, a command whose effect ends with a count to a counter of its own offers that count and the LINK
count of its result (R22, R23). -/
theorem completesWith_offerCount {c : Fin 45} {r : Result} {s e : State} (hc : resultCounter r ≠ c)
    (hhold : s.hold.active = false) :
    CompletesWith (fun k => k == c) r s e (moveOn (finishCommand s.hold.active r (offerCount c e))) := by
  have hcounted : Counted (fun k => k == resultCounter r || k == c) e
      (offerCount (resultCounter r) { offerCount c e with lastResult := r }) :=
    counted_offerCount (t := { offerCount c e with lastResult := r }) (counted_offerCount_self c e)
      (by simp) (by simpa using hc)
  have hfinish : finishCommand s.hold.active r (offerCount c e) =
      evalAlert (offerCount (resultCounter r) { offerCount c e with lastResult := r }) := by
    rw [hhold]
    rfl
  rw [hfinish]
  refine ⟨hcounted, rfl, ?_⟩
  obtain ⟨_, _, hown⟩ := offerCount_shape c e
  obtain ⟨_, _, hlink⟩ := offerCount_shape (resultCounter r) { offerCount c e with lastResult := r }
  rw [hlink, hown, hhold]
  rfl

end Sys2Proof.Machine

open Sys2Proof Sys2Proof.Machine Sys2Proof.Safety

/-- Settles O53: WDSET's effect is on the supervisor alone, so the link and a hold stand as they were. -/
theorem wdsetSetsTheTiming : Obligations.WdsetSetsTheTiming := by
  unfold Obligations.WdsetSetsTheTiming
  intro e w flags s hup d r
  refine ⟨rfl, rfl, ?_⟩
  have hverdict : verdict { preCommit := true } true (wdsetOperands e w flags)
      (if d.phase == .pulsing then some .state else none) s = r := by
    simp [verdict, apply_ite (Option.getD · Result.done), wdsetOperands_eq_false_iff, r]
  have heffect := wdsetEffect_eq e w flags s
  simp only [ne_eq, ite_not, ← hverdict, d, ← heffect]
  exact answers_of_complete (effect := wdsetEffect e w flags) rfl hup (heffect ▸ hup) fun _ _ => heffect ▸ rfl

/-- Settles O54: a refusal answers as every other command's, and check 3 lets a kick through outside a hold alone, where
its own count and the LINK count are all that its completion adds. -/
theorem wdkickKicks : Obligations.WdkickKicks := by
  unfold Obligations.WdkickKicks
  intro g s hup d r
  have hverdict : verdict { guarded := true } (guardOk 0x71 g) true
      (if d.state == .off || d.phase == .pulsing then some .state else none) s = r := by
    simp [verdict, apply_ite (Option.getD · Result.done), guardOk, r]
  have hexec : exec (.wdkick g) s = .next (complete r wdkickEffect s) := by
    rw [← hverdict]
    rfl
  refine ⟨rfl, rfl, fun hrefused => ?_, fun hdone => ?_⟩
  · simpa only [if_neg hrefused] using answers_of_complete hexec hup
      (by simpa [wdkickEffect, linkUp] using hup) fun hdone => absurd hdone hrefused
  · obtain ⟨_, _, hheld, _⟩ := (verdict_done_iff _ _ _ _ _ (by split_ifs <;> simp)).mp (hverdict.trans hdone)
    have hhold : s.hold.active = false := by simpa using hheld
    rw [complete_of_linkUp hup, hdone, if_pos rfl] at hexec
    exact ⟨_, hexec, completesWith_offerCount (by decide) hhold⟩

end

section
/-! SUPPORT. One step of the queue, the state after reset, and the events of a power-on and of a pin reset as whole next
states. -/

namespace Sys2Proof.Machine

/-! ## What the part drives while the link is down -/

/-- 00h goes out in SPI while CS# is low, and nothing otherwise (R7). -/
theorem ignoredOut_eq (i2c csLow : Bool) :
    ignoredOut i2c csLow = if i2c = false ∧ csLow = true then some 0 else none := by
  cases i2c <;> cases csLow <;> rfl

/-- The parser waits in IGNORE for the end of a transaction that it has not seen begin (R20). -/
theorem parserAtRelease_eq (i2c csLow : Bool) :
    parserAtRelease i2c csLow = if i2c = false ∧ csLow = true then .ignore else .idle := by
  cases i2c <;> cases csLow <;> rfl

theorem satInc_byte (x : Byte) : satInc x = if x = 255 then 255 else x + 1 := by
  unfold satInc
  rw [show BitVec.allOnes 8 = 255 from rfl]
  split_ifs with h
  · exact h
  · rfl

/-! ## The sweep and RST# in INIT (R168) -/

theorem execSweepComplete_of_sweeping {s : State} (hlife : s.life = .init) (hsweep : s.sweep < Config.sweepPeriods)
    (p : PinLevels) : exec (.sweepComplete p) s = .next (sweepEnds p s) := by
  show Host.Outcome.next (if _ then _ else _) = _
  rw [if_pos (by simp [hlife, hsweep])]

theorem rstRises_of_swept {s : State} (hlife : s.life = .init) (hsweep : Config.sweepPeriods ≤ s.sweep)
    (p : PinLevels) : rstRises p s = openAfterInit { i2c := p.ifsel, adrHigh := p.adr } p s := by
  unfold rstRises
  simp only [hlife, if_pos hsweep]

theorem rstRises_of_sweeping {s : State} (hlife : s.life = .init) (hsweep : s.sweep < Config.sweepPeriods)
    (p : PinLevels) : rstRises p s = showPins p s := by
  unfold rstRises
  simp only [hlife, if_neg (Nat.not_le.mpr hsweep)]

end Sys2Proof.Machine

open Sys2Proof Sys2Proof.Machine Sys2Proof.Safety

/-- Settles O1: the front of the queue decides the branch of `step`. -/
theorem stepRunsFrontCommand : Obligations.StepRunsFrontCommand := by
  unfold Obligations.StepRunsFrontCommand
  intro c rest s hqueue
  unfold step
  rw [hqueue]

/-- Settles O4: every entry of the table is the value of a field of `State.reset`. -/
theorem resetStateTable : Obligations.ResetStateTable := by
  unfold Obligations.ResetStateTable
  refine ⟨rfl, rfl, rfl, rfl, rfl, rfl, rfl, rfl, rfl, rfl, rfl, rfl, rfl, rfl, fun n => ?_, rfl, rfl, rfl, fun k => ?_,
    rfl, fun _ => rfl, rfl, rfl, rfl, rfl, rfl, rfl, rfl, rfl, rfl, rfl, rfl, rfl, rfl, rfl, rfl, rfl, rfl,
    fun _ => rfl, fun _ => rfl, rfl, rfl, rfl, rfl, rfl, rfl, rfl, rfl, rfl, rfl, rfl, rfl, rfl, rfl, rfl, rfl, rfl⟩
  · simp [State.reset, Conditioner.reset]
  · simp [State.reset, Counters.reset]

/-- Settles O5: after reset every unit is Locked, every store empty and nothing pending. -/
theorem resetIsGood : Obligations.ResetIsGood := by
  unfold Obligations.ResetIsGood
  refine ⟨{ stores := State.reset_stores_wf, idleBanks := fun c _ => ?_, cursor := by decide, run := by decide
            leaf := by decide, queue := by decide, loss := by decide, sampling := by decide, config := by decide
            hold := by decide, causes := by decide, faultDetail := by decide, autoClear := by decide
            supervisor := by decide, pins := by decide, standby := by decide, window := by decide
            quiet := by decide }, rfl, fun _ => rfl⟩
  simp [State.reset, Counters.reset]

/-- Settles O51: each row is one whole next state, and in INIT the sweep's progress and RST# decide which. -/
theorem powerOnResetEvents : Obligations.PowerOnResetEvents := by
  unfold Obligations.PowerOnResetEvents
  intro p ev s
  simp only [← ignoredOut_eq, ← parserAtRelease_eq]
  refine ⟨rfl, rfl, fun hlife hsweep hrst => ?_, fun hlife hsweep hrst => ?_, fun hlife hsweep => ?_,
    fun hlife hsweep => ?_⟩
  · rw [execSweepComplete_of_sweeping hlife hsweep, sweepEnds, if_neg (by simp [hrst])]
    rfl
  · rw [execSweepComplete_of_sweeping hlife hsweep, sweepEnds, if_pos hrst]
    rfl
  · show Host.Outcome.next (rstRises p s) = _
    rw [rstRises_of_swept hlife hsweep]
    rfl
  · show Host.Outcome.next (rstRises p s) = _
    rw [rstRises_of_sweeping hlife hsweep]
    rfl

/-- Settles O52: the falling RST# is a reset where the link is up, and its release ends the reset that began so. -/
theorem pinResetEvents : Obligations.PinResetEvents := by
  unfold Obligations.PinResetEvents
  intro p s
  simp only [← ignoredOut_eq, ← parserAtRelease_eq, ← satInc_byte]
  refine ⟨fun hup => ?_, fun hlife => ?_, fun hlife => ?_⟩
  · show Host.Outcome.next (ite _ _ _) = _
    rw [if_pos hup]
    rfl
  · show Host.Outcome.next (ite _ _ _) = _
    rw [if_neg (by simp [linkUp, hlife])]
  · show Host.Outcome.next (rstRises p s) = _
    unfold rstRises
    simp only [hlife]
    rfl

end

section
/-! SUPPORT. What the writer leaves alone of the recorder: the configuration, the loss tally, the deferral and the
snapshot sequence are not its own (R112, R115, R116). -/

namespace Sys2Proof.Machine

/-- Leaf entry (R123). -/
@[simp] theorem leafEntry_recorder_rest (s : State) :
    (leafEntry s).recorder.config = s.recorder.config ∧ (leafEntry s).recorder.lossCount = s.recorder.lossCount ∧
    (leafEntry s).recorder.lossTime = s.recorder.lossTime ∧ (leafEntry s).recorder.deferred = s.recorder.deferred ∧
    (leafEntry s).recorder.missed = s.recorder.missed ∧ (leafEntry s).recorder.snapSeq = s.recorder.snapSeq := by
  unfold leafEntry; dsimp only; split_ifs <;> simp

/-- An arrival at a leaf (R124). -/
@[simp] theorem arrive_recorder_rest (e : BitVec 6) (l : Byte) (s : State) :
    (arrive e l s).recorder.config = s.recorder.config ∧ (arrive e l s).recorder.lossCount = s.recorder.lossCount ∧
    (arrive e l s).recorder.lossTime = s.recorder.lossTime ∧ (arrive e l s).recorder.deferred = s.recorder.deferred ∧
    (arrive e l s).recorder.missed = s.recorder.missed ∧ (arrive e l s).recorder.snapSeq = s.recorder.snapSeq := by
  simp [arrive]

/-- The queue discarded (R83). -/
@[simp] theorem discardQueue_recorder_rest (s : State) :
    (discardQueue s).recorder.config = s.recorder.config ∧
    (discardQueue s).recorder.lossCount = s.recorder.lossCount ∧
    (discardQueue s).recorder.lossTime = s.recorder.lossTime ∧
    (discardQueue s).recorder.deferred = s.recorder.deferred ∧ (discardQueue s).recorder.missed = s.recorder.missed ∧
    (discardQueue s).recorder.snapSeq = s.recorder.snapSeq := by
  simp [discardQueue]

/-- STOP (R125). -/
@[simp] theorem stopAt_recorder_rest (e : BitVec 6) (s : State) :
    (stopAt e s).recorder.config = s.recorder.config ∧ (stopAt e s).recorder.lossCount = s.recorder.lossCount ∧
    (stopAt e s).recorder.lossTime = s.recorder.lossTime ∧ (stopAt e s).recorder.deferred = s.recorder.deferred ∧
    (stopAt e s).recorder.missed = s.recorder.missed ∧ (stopAt e s).recorder.snapSeq = s.recorder.snapSeq := by
  simp [stopAt, endWalk]

/-- A fault (R126). -/
@[simp] theorem faultAt_recorder_rest (k : FaultKind) (e : BitVec 6) (s : State) :
    (faultAt k e s).recorder.config = s.recorder.config ∧ (faultAt k e s).recorder.lossCount = s.recorder.lossCount ∧
    (faultAt k e s).recorder.lossTime = s.recorder.lossTime ∧
    (faultAt k e s).recorder.deferred = s.recorder.deferred ∧ (faultAt k e s).recorder.missed = s.recorder.missed ∧
    (faultAt k e s).recorder.snapSeq = s.recorder.snapSeq := by
  unfold faultAt recordFault; split_ifs <;> simp [endWalk]

/-- The advance of the cursor (R124). -/
@[simp] theorem advance_recorder_rest (s : State) :
    (advance s).recorder.config = s.recorder.config ∧ (advance s).recorder.lossCount = s.recorder.lossCount ∧
    (advance s).recorder.lossTime = s.recorder.lossTime ∧ (advance s).recorder.deferred = s.recorder.deferred ∧
    (advance s).recorder.missed = s.recorder.missed ∧ (advance s).recorder.snapSeq = s.recorder.snapSeq := by
  unfold advance; dsimp only; (repeat' split) <;> simp

/-- Steps 1 to 5 of sealing (R122). -/
@[simp] theorem writeSeal_recorder_rest (s : State) :
    (writeSeal s).recorder.config = s.recorder.config ∧ (writeSeal s).recorder.lossCount = s.recorder.lossCount ∧
    (writeSeal s).recorder.lossTime = s.recorder.lossTime ∧ (writeSeal s).recorder.deferred = s.recorder.deferred ∧
    (writeSeal s).recorder.missed = s.recorder.missed ∧ (writeSeal s).recorder.snapSeq = s.recorder.snapSeq := by
  unfold writeSeal; dsimp only; split_ifs <;> simp

/-- Sealing (R122). -/
@[simp] theorem sealLeaf_recorder_rest (s : State) :
    (sealLeaf s).recorder.config = s.recorder.config ∧ (sealLeaf s).recorder.lossCount = s.recorder.lossCount ∧
    (sealLeaf s).recorder.lossTime = s.recorder.lossTime ∧ (sealLeaf s).recorder.deferred = s.recorder.deferred ∧
    (sealLeaf s).recorder.missed = s.recorder.missed ∧ (sealLeaf s).recorder.snapSeq = s.recorder.snapSeq := by
  simp [sealLeaf]

/-- Placing a record (R119). -/
@[simp] theorem placeRecord_recorder_rest (r : Rec) (s : State) :
    (placeRecord r s).recorder.config = s.recorder.config ∧
    (placeRecord r s).recorder.lossCount = s.recorder.lossCount ∧
    (placeRecord r s).recorder.lossTime = s.recorder.lossTime ∧
    (placeRecord r s).recorder.deferred = s.recorder.deferred ∧
    (placeRecord r s).recorder.missed = s.recorder.missed ∧
    (placeRecord r s).recorder.snapSeq = s.recorder.snapSeq := by
  simp [placeRecord, apply_ite State.recorder]

/-- One record handled (R118). -/
@[simp] theorem handleRecord_recorder_rest (r : Rec) (s : State) :
    (handleRecord r s).recorder.config = s.recorder.config ∧
    (handleRecord r s).recorder.lossCount = s.recorder.lossCount ∧
    (handleRecord r s).recorder.lossTime = s.recorder.lossTime ∧
    (handleRecord r s).recorder.deferred = s.recorder.deferred ∧
    (handleRecord r s).recorder.missed = s.recorder.missed ∧
    (handleRecord r s).recorder.snapSeq = s.recorder.snapSeq := by
  unfold handleRecord; dsimp only; split_ifs <;> simp

/-- The drain, over the records it has still to take (R118). -/
@[simp] theorem drainList_recorder_rest (l : List Rec) (s : State) :
    (drainList l s).recorder.config = s.recorder.config ∧ (drainList l s).recorder.lossCount = s.recorder.lossCount ∧
    (drainList l s).recorder.lossTime = s.recorder.lossTime ∧
    (drainList l s).recorder.deferred = s.recorder.deferred ∧ (drainList l s).recorder.missed = s.recorder.missed ∧
    (drainList l s).recorder.snapSeq = s.recorder.snapSeq := by
  induction l generalizing s with
  | nil => simp [drainList]
  | cons r l ih => unfold drainList; dsimp only; split_ifs <;> simp [ih]

/-- The drain (R118). -/
@[simp] theorem drain_recorder_rest (s : State) :
    (drain s).recorder.config = s.recorder.config ∧ (drain s).recorder.lossCount = s.recorder.lossCount ∧
    (drain s).recorder.lossTime = s.recorder.lossTime ∧ (drain s).recorder.deferred = s.recorder.deferred ∧
    (drain s).recorder.missed = s.recorder.missed ∧ (drain s).recorder.snapSeq = s.recorder.snapSeq := by
  simp [drain]

end Sys2Proof.Machine

end

section
/-! SUPPORT. Counters of several banks cleared at once, and BANKCTL's effect as a whole next state (R69 to R72, R151). -/

namespace Sys2Proof.Machine

open Sys2Proof.Safety

/-! ## Banks cleared -/

theorem Counters.ext_of_getElem {c d : Counters} (hvalue : ∀ k : Fin 45, c.value[k] = d.value[k])
    (hwrapped : ∀ k : Fin 45, c.wrapped[k] = d.wrapped[k]) (halert : c.wrapAlert = d.wrapAlert) : c = d := by
  obtain ⟨v, w, a⟩ := c
  obtain ⟨v', w', a'⟩ := d
  have hv : v = v' := Vector.ext fun i hi => hvalue ⟨i, hi⟩
  have hw : w = w' := Vector.ext fun i hi => hwrapped ⟨i, hi⟩
  have ha : a = a' := halert
  rw [hv, hw, ha]

theorem clearedBanks_value (p : Bank → Bool) (c : Counters) (k : Fin 45) :
    (clearedBanks p c).value[k] = if p (bankOf k) then 0 else c.value[k] := by
  simp [clearedBanks]

theorem clearedBanks_wrapped (p : Bank → Bool) (c : Counters) (k : Fin 45) :
    (clearedBanks p c).wrapped[k] = (c.wrapped[k] && !p (bankOf k)) := by
  simp [clearedBanks]

theorem clearedBanks_wrapAlert (p : Bank → Bool) (c : Counters) : (clearedBanks p c).wrapAlert = c.wrapAlert := by
  unfold clearedBanks
  rfl

theorem clearedBanks_congr {p q : Bank → Bool} (h : ∀ b, p b = q b) (c : Counters) :
    clearedBanks p c = clearedBanks q c := by
  rw [funext h]

theorem clearedBanks_none (c : Counters) : clearedBanks (fun _ => false) c = c := by
  apply Counters.ext_of_getElem
  · intro k
    rw [clearedBanks_value, if_neg Bool.false_ne_true]
  · intro k
    rw [clearedBanks_wrapped, Bool.not_false, Bool.and_true]
  · rw [clearedBanks_wrapAlert]

theorem clearedBanks_clearedBanks (p q : Bank → Bool) (c : Counters) :
    clearedBanks p (clearedBanks q c) = clearedBanks (fun b => q b || p b) c := by
  apply Counters.ext_of_getElem
  · intro k
    simp only [clearedBanks_value]
    cases p (bankOf k) <;> cases q (bankOf k) <;> rfl
  · intro k
    simp only [clearedBanks_wrapped, Bool.not_or, Bool.and_assoc]
  · simp only [clearedBanks_wrapAlert]

theorem clearBank_eq (b : Bank) (s : State) :
    clearBank b s = { s with counters := clearedBanks (fun k => k == b) s.counters } := by
  unfold clearBank clearedBanks
  simp only [beq_iff_eq]
  rfl

theorem Units.setBank_bank (u : Units) (b : Bank) : u.setBank b (u.bank b) = u := by cases b <;> rfl

/-! ## BANKCTL -/

/-- Where a move takes a bank: nowhere if it is Locked (R72). -/
def movedTo (target u : UnitState) : UnitState := if u = .locked then .locked else target

/-- A move clears a bank that enters Off from Ready or Running (R69). -/
def clearedByMove (target u : UnitState) : Bool := (u == .ready || u == .running) && target == .off

theorem movedTo_of_stays {target u : UnitState} (h : u = .locked ∨ u = target) :
    movedTo target u = u ∧ clearedByMove target u = false := by
  rcases h with rfl | rfl
  · exact ⟨rfl, rfl⟩
  · cases u <;> exact ⟨rfl, rfl⟩

theorem movedTo_of_moves {target u : UnitState} (h : ¬(u = .locked ∨ u = target)) :
    movedTo target u = target ∧ clearedByMove target u = (target == .off) := by
  unfold movedTo clearedByMove
  cases u <;> cases target <;> simp [beq_eq_decide] at h ⊢

/-- A bank's move as a whole next state (R69, R72). -/
theorem moveBank_eq (b : Bank) (target : UnitState) (s : State) :
    moveBank b target s = { s with
      units := s.units.setBank b (movedTo target (s.units.bank b))
      counters := clearedBanks (fun k => k == b && clearedByMove target (s.units.bank b)) s.counters } := by
  unfold moveBank
  simp only [Bool.or_eq_true, decide_eq_true_eq]
  split_ifs with hstays hoff
  · obtain ⟨hmoved, hcleared⟩ := movedTo_of_stays hstays
    simp [hmoved, hcleared, Units.setBank_bank, clearedBanks_none]
  · obtain ⟨hmoved, hcleared⟩ := movedTo_of_moves hstays
    subst hoff
    simp [hmoved, hcleared, clearBank_eq]
  · obtain ⟨hmoved, hcleared⟩ := movedTo_of_moves hstays
    simp [hmoved, hcleared, beq_eq_false_iff_ne.mpr hoff, clearedBanks_none]

theorem bankRequest_getD (control : Byte) (b : Bank) :
    (bankRequest control b).getD .off = bankTargetOf control b := by
  unfold bankRequest bankTargetOf
  cases control.getLsbD b.index <;> cases control.getLsbD (b.index + 4) <;> rfl

theorem and_not_counterWrap_bit : (~~~Cause.counterWrap.bit : Half) = 0xFFDF := by decide

theorem clearWrapCause_eq (s : State) : clearWrapCause s = { s with alerts := withoutIdleWrap s.units s.alerts } := by
  unfold clearWrapCause withoutIdleWrap removeCauses
  split_ifs
  · rw [and_not_counterWrap_bit]
  · rfl

/-- BANKCTL's effect, all four banks at once (R72, R151). -/
theorem bankctlEffect_eq (control : Byte) (s : State) : bankctlEffect control s = afterBankctl control s := by
  unfold bankctlEffect afterBankctl
  simp only [bankRequest_getD, moveBank_eq, clearWrapCause_eq, clearedBanks_clearedBanks]
  rw [clearedBanks_congr]
  · rfl
  intro b
  cases b <;> simp [Units.bank, Units.setBank, clearedByMove, beq_eq_decide]

end Sys2Proof.Machine

end

section
/-! SUPPORT. The freeze image that BANKSNAP writes, and its effect as a whole next state (R88, R89). -/

namespace Sys2Proof.Machine

open Sys2Proof.Safety

/-- The first counter of a bank, the number of its counters, and the bytes of its wrap-set field (section 5.5). -/
def slotOf : Bank → Nat × Nat × Nat
  | .edge => (0, 16, 2)
  | .dwell => (16, 16, 2)
  | .link => (32, 8, 1)
  | .tally => (40, 5, 1)

/-- The offset of a bank's wrap-set field in the freeze image (section 5.5). -/
def wrapFieldAt : Bank → Nat
  | .edge => 188
  | .dwell => 190
  | .link => 192
  | .tally => 193

/-- The freeze image with a bank's slot copied into it. -/
def bankCopied (s : State) (b : Bank) (m : Memory) : Memory :=
  let slot := slotOf b
  (m.writeAll (8 + 4 * slot.1) (counterBytes s slot.1 slot.2.1)).writeAll (wrapFieldAt b)
    (wrapBytes s slot.1 slot.2.1 slot.2.2)

/-- The same if the bank is selected. -/
def bankCopiedIf (selection : Byte) (s : State) (b : Bank) (m : Memory) : Memory :=
  if selection.getLsbD b.index then bankCopied s b m else m

/-- The freeze image that BANKSNAP leaves (R89). -/
def snapImage (selection : Byte) (s : State) : Memory :=
  (bankCopiedIf selection s .tally (bankCopiedIf selection s .link (bankCopiedIf selection s .dwell
    (bankCopiedIf selection s .edge s.freeze)))).writeAll 0
    (leBytes (timestamp s) 4 ++ [selection &&& 0x0F, (runningBanks s.units).setWidth 8, 0, 0])

/-- The wrap sets without those of some banks. -/
def wrapsWithout (cleared : Bank → Bool) (c : Counters) : Counters :=
  { c with wrapped := Vector.ofFn fun k => c.wrapped[k] && !cleared (bankOf k) }

theorem wrapsWithout_wrapped (p : Bank → Bool) (c : Counters) (k : Fin 45) :
    (wrapsWithout p c).wrapped[k] = (c.wrapped[k] && !p (bankOf k)) := by
  simp [wrapsWithout]

theorem wrapsWithout_value (p : Bank → Bool) (c : Counters) : (wrapsWithout p c).value = c.value := by
  unfold wrapsWithout; rfl

theorem wrapsWithout_wrapAlert (p : Bank → Bool) (c : Counters) : (wrapsWithout p c).wrapAlert = c.wrapAlert := by
  unfold wrapsWithout; rfl

theorem wrapsWithout_congr {p q : Bank → Bool} (h : ∀ b, p b = q b) (c : Counters) :
    wrapsWithout p c = wrapsWithout q c := by
  rw [funext h]

theorem wrapsWithout_none (c : Counters) : wrapsWithout (fun _ => false) c = c := by
  apply Counters.ext_of_getElem
  · intro k
    rw [wrapsWithout_value]
  · intro k
    rw [wrapsWithout_wrapped, Bool.not_false, Bool.and_true]
  · rw [wrapsWithout_wrapAlert]

theorem wrapsWithout_wrapsWithout (p q : Bank → Bool) (c : Counters) :
    wrapsWithout p (wrapsWithout q c) = wrapsWithout (fun b => q b || p b) c := by
  apply Counters.ext_of_getElem
  · intro k
    simp only [wrapsWithout_value]
  · intro k
    simp only [wrapsWithout_wrapped, Bool.not_or, Bool.and_assoc]
  · simp only [wrapsWithout_wrapAlert]

theorem snapBank_eq (b : Bank) (s : State) (m : Memory) :
    snapBank b { s with freeze := m } = { s with freeze := bankCopied s b m } := by
  have hcounters (first n : Nat) : counterBytes { s with freeze := m } first n = counterBytes s first n := rfl
  have hwraps (first n k : Nat) (m' : Memory) :
      wrapBytes { s with freeze := m' } first n k = wrapBytes s first n k := rfl
  unfold snapBank freezeBytes
  cases b <;> simp only [hcounters, hwraps, bankCopied, slotOf, wrapFieldAt]

/-- One bank's slot is all that its copy touches. -/
theorem onSelected_snapBank (selection : Byte) (b : Bank) (s : State) (m : Memory) :
    onSelected selection snapBank b { s with freeze := m } = { s with freeze := bankCopiedIf selection s b m } := by
  unfold onSelected bankCopiedIf
  split_ifs
  · exact snapBank_eq b s m
  · rfl

/-- One bank's wrap set is all that its clearing touches. -/
theorem onSelected_clearWraps (selection : Byte) (b : Bank) (s : State) :
    onSelected selection clearWraps b s =
      { s with counters := wrapsWithout (fun k => k == b && selection.getLsbD b.index) s.counters } := by
  unfold onSelected
  split_ifs with h
  · unfold clearWraps wrapsWithout
    simp only [h, Bool.and_true, bne]
  · simp only [eq_false_of_ne_true h, Bool.and_false, wrapsWithout_none]

theorem onSelectedBanks_snapBank (selection : Byte) (s : State) :
    snapHeader selection (onSelectedBanks selection snapBank s) = { s with freeze := snapImage selection s } := by
  unfold onSelectedBanks
  have hedge := onSelected_snapBank selection .edge s s.freeze
  rw [hedge, onSelected_snapBank, onSelected_snapBank, onSelected_snapBank]
  rfl

theorem onSelectedBanks_clearWraps (selection : Byte) (s : State) :
    onSelectedBanks selection clearWraps s =
      { s with counters := wrapsWithout (fun b => selection.getLsbD b.index) s.counters } := by
  unfold onSelectedBanks
  simp only [onSelected_clearWraps, wrapsWithout_wrapsWithout]
  rw [wrapsWithout_congr]
  intro b
  cases b <;> simp [beq_eq_decide]

/-- BANKSNAP's effect as a whole next state: the freeze image, and the wrap sets if clear-wrap is set (R89). -/
theorem banksnapEffect_eq (selection : Byte) (s : State) : banksnapEffect selection s = { s with
    freeze := snapImage selection s
    counters := wrapsWithout (fun b => selection.getLsbD 4 && selection.getLsbD b.index) s.counters } := by
  unfold banksnapEffect
  simp only [onSelectedBanks_snapBank, onSelectedBanks_clearWraps]
  cases selection.getLsbD 4
  · simp only [Bool.false_and, wrapsWithout_none]
    rfl
  · rfl

end Sys2Proof.Machine

end

section
/-! SUPPORT. An evaluation of G as a whole next state: the banks, the recorder and the causes that they take with them
(R60 to R66, R150, R151). -/

namespace Sys2Proof.Machine

open Sys2Proof.Safety

/-! ## The recorder stops -/

theorem and_not_recorderCauses : (~~~recorderCauses : Half) = 0xFFF0 := by decide

/-- A stop discards the queue, each record with a count to TALLY counter 43, and leaves the recorder as Off has it
(R109, R64, R150). -/
theorem recorderStops_eq (s : State) :
    recorderStops s =
      { offerCounts 43 s.recorder.queue.length s with
        recorder := recorderOff s.recorder
        alerts := withoutRecorderCauses (offerCounts 43 s.recorder.queue.length s).alerts } := by
  unfold recorderStops discardQueue clearLoss recorderOff withoutRecorderCauses
  simp only [and_not_recorderCauses]
  simp

/-- With nothing in the queue the stop touches the recorder and the causes alone. -/
theorem recorderStops_of_empty {s : State} (hqueue : s.recorder.queue = []) :
    recorderStops s = { s with recorder := recorderOff s.recorder, alerts := withoutRecorderCauses s.alerts } := by
  rw [recorderStops_eq, hqueue]
  rfl

/-! ## The units -/

/-- A unit after an evaluation of G (R60): without it Locked, and regained Off. -/
def grantedTo (g : Bool) (u : UnitState) : UnitState := if g then (if u = .locked then .off else u) else .locked

/-- A unit loses its grant (R62). -/
def losesG (g : Bool) (u : UnitState) : Bool := u != .locked && !g

theorem grantedTo_of_regains {g : Bool} (hg : g = true) : grantedTo g .locked = .off ∧ losesG g .locked = false := by
  simp [grantedTo, losesG, hg]

theorem grantedTo_of_ungranted {g : Bool} (hg : ¬g = true) :
    grantedTo g .locked = .locked ∧ losesG g .locked = false := by
  simp [grantedTo, losesG, hg]

theorem grantedTo_of_keeps {g : Bool} {u : UnitState} (hu : u ≠ .locked) (hg : g = true) :
    grantedTo g u = u ∧ losesG g u = false := by
  simp [grantedTo, losesG, hg, hu]

theorem grantedTo_of_loses {g : Bool} {u : UnitState} (hu : u ≠ .locked) (hg : ¬g = true) :
    grantedTo g u = .locked ∧ losesG g u = true := by
  simp [grantedTo, losesG, hg, hu]

/-- A bank's part of an evaluation of G as a whole next state (R63, R66). -/
theorem regrantBank_eq (b : Bank) (s : State) :
    regrantBank b s = { s with
      units := s.units.setBank b (grantedTo (effectiveGrant s b.index) (s.units.bank b))
      counters := clearedBanks (fun k => k == b && losesG (effectiveGrant s b.index) (s.units.bank b)) s.counters } := by
  have hstays := Units.setBank_bank s.units b
  unfold regrantBank
  generalize hu : s.units.bank b = u at *
  split_ifs with hlocked hgrant hgrant
  · subst hlocked
    obtain ⟨hunit, hlost⟩ := grantedTo_of_regains hgrant
    simp [hunit, hlost, clearedBanks_none]
  · subst hlocked
    obtain ⟨hunit, hlost⟩ := grantedTo_of_ungranted hgrant
    simp [hunit, hlost, clearedBanks_none, hstays]
  · obtain ⟨hunit, hlost⟩ := grantedTo_of_keeps hlocked hgrant
    simp [hunit, hlost, clearedBanks_none, hstays]
  · obtain ⟨hunit, hlost⟩ := grantedTo_of_loses hlocked hgrant
    simp [hunit, hlost, clearBank_eq]

/-- The recorder's part of an evaluation of G with an empty queue as a whole next state (R64, R66). -/
theorem regrantRecorder_eq {s : State} (hqueue : s.recorder.queue = []) :
    regrantRecorder s = { s with
      units := { s.units with recorder := grantedTo (effectiveGrant s 4) s.units.recorder }
      recorder := if losesG (effectiveGrant s 4) s.units.recorder then recorderOff s.recorder else s.recorder
      alerts := if losesG (effectiveGrant s 4) s.units.recorder then withoutRecorderCauses s.alerts else s.alerts } := by
  unfold regrantRecorder
  split
  · next hlocked =>
    split
    · next hgrant =>
      obtain ⟨hunit, hlost⟩ := grantedTo_of_regains hgrant
      simp [hlocked, hunit, hlost]
    · next hgrant =>
      obtain ⟨hunit, hlost⟩ := grantedTo_of_ungranted hgrant
      have hself : { s.units with recorder := UnitState.locked } = s.units := by rw [← hlocked]
      simp [hlocked, hunit, hlost, hself]
  · next hlocked =>
    split
    · next hgrant =>
      obtain ⟨hunit, hlost⟩ := grantedTo_of_keeps hlocked hgrant
      simp [hunit, hlost]
    · next hgrant =>
      obtain ⟨hunit, hlost⟩ := grantedTo_of_loses hlocked hgrant
      rw [recorderStops_of_empty (s := { s with units := { s.units with recorder := .locked } }) hqueue]
      simp [hunit, hlost]

/-- A bank's part of an evaluation leaves the recorder alone, and the recorder's part stops it or leaves it (R64). -/
theorem evaluateGrants_recorder (s : State) :
    (evaluateGrants s).recorder = s.recorder ∨ (evaluateGrants s).recorder = recorderOff s.recorder := by
  have hrecorder (t : State) : (regrantRecorder t).recorder = t.recorder ∨
      (regrantRecorder t).recorder = recorderOff t.recorder := by
    unfold regrantRecorder
    split_ifs <;> simp [recorderStops_eq]
  have hbanks := hrecorder (regrantBank .tally (regrantBank .link (regrantBank .dwell (regrantBank .edge s))))
  unfold evaluateGrants clearWrapCause
  simpa [apply_ite State.recorder] using hbanks

/-- The four banks' part of an evaluation of G, in their order, as a whole next state. -/
theorem regrantBanks_eq (s : State) :
    regrantBank .tally (regrantBank .link (regrantBank .dwell (regrantBank .edge s))) = { s with
      units := { s.units with
        edge := grantedTo (effectiveGrant s 0) s.units.edge, dwell := grantedTo (effectiveGrant s 1) s.units.dwell
        link := grantedTo (effectiveGrant s 2) s.units.link, tally := grantedTo (effectiveGrant s 3) s.units.tally }
      counters := clearedBanks (fun b => losesG (effectiveGrant s b.index) (s.units.bank b)) s.counters } := by
  have hgrant (u : Units) (c : Counters) (i : Nat) :
      effectiveGrant { s with units := u, counters := c } i = effectiveGrant s i := rfl
  simp only [regrantBank_eq, clearedBanks_clearedBanks, hgrant]
  rw [clearedBanks_congr (q := fun b => losesG (effectiveGrant s b.index) (s.units.bank b))]
  · simp only [Units.setBank, Units.bank, Bank.index]
  · intro b
    cases b <;> simp [beq_eq_decide, Units.bank, Units.setBank]

theorem enabledUnitRevoked_eq (s : State) : enabledUnitRevoked s =
    [(s.units.edge, 0), (s.units.dwell, 1), (s.units.link, 2), (s.units.tally, 3),
      (s.units.recorder, 4)].any fun x => (x.1 == .ready || x.1 == .running) && !effectiveGrant s x.2 := by
  have hloses (u : UnitState) (i : Nat) :
      (losesGrant s u i && u.enabled) = ((u == .ready || u == .running) && !effectiveGrant s i) := by
    unfold losesGrant
    cases u <;> cases effectiveGrant s i <;> rfl
  simp only [enabledUnitRevoked, hloses, List.any_cons, List.any_nil, Bool.or_false, Bool.or_assoc, Units.bank,
    Bank.index]

theorem raiseIf_eq (p : Prop) [Decidable p] (c : Cause) (s : State) : (if p then raise c s else s) =
    { s with alerts := if p then { s.alerts with raised := s.alerts.raised ||| c.bit } else s.alerts } := by
  split_ifs <;> rfl

/-- An evaluation of G with an empty record queue, all units at once (R62 to R66, R151). -/
theorem evaluateGrants_eq {s : State} (hqueue : s.recorder.queue = []) : evaluateGrants s = afterEvaluation s := by
  unfold evaluateGrants
  rw [regrantBanks_eq, regrantRecorder_eq (by exact hqueue), clearWrapCause_eq, enabledUnitRevoked_eq]
  unfold afterEvaluation
  simp only [raiseIf_eq, grantedTo, losesG, effectiveGrant]
  rfl

end Sys2Proof.Machine

end

section
/-! SUPPORT. Every known command by one table: what the checks of R21 need to know of it, its operand check, its state
check and its effect. Each row of the table is tied to `exec` by `exec_command`, and each command statement is read off
it. -/

namespace Sys2Proof.Machine

open Sys2Proof.Safety

/-! ## The table of the commands -/

/-- What checks 1 to 4 need to know of a command (section 2.3). -/
def kindOf (c : Instr) : CommandKind :=
  { passesLock := passesLock c, guarded := isProtected c, isHold := isHold c
    preCommit := isPreCommitOnly c || isCommit c }

/-- Check 5 of R21: the operands are in range. -/
def operandsInRange : Instr → State → Bool
  | .grant g v _, _ => g &&& 0xE0 == 0 && v &&& 0xE0 == 0
  | .hold n, _ => n != 0 && n.toNat ≤ 4
  | .incfg n config, _ => n.toNat < 16 && config &&& 0xFE00 == 0
  | .bankctl control, _ => allBanks.all fun b => (bankRequest control b).isSome
  | .banksnap selection, _ => selection &&& 0x0F != 0 && selection &&& 0xE0 == 0
  | .cntset counter _, _ => counter.toNat < 45
  | .wrapcfg enables, _ => enables &&& 0xF0 == 0
  | .recctl target start, s => recctlOperands target start s
  | .reccfg interval kinds k slots, _ => reccfgOperands interval kinds k slots
  | .winset space walk start stop, _ => winsetOperands space walk start stop
  | .alertmask mask, _ => causeMaskOk mask
  | .alertack mask, _ => causeMaskOk mask
  | .wdset e w flags, _ => wdsetOperands e w flags
  | _, _ => true

/-- Check 6 of R21: the result where the state does not allow the command. -/
def stateRefusal : Instr → State → Option Result
  | .standby _, s => if s.supervisor.state == .off then none else some .state
  | .bankctl control, s => if allBanks.any (bankRefused control s) then some .transition else none
  | .cntset counter _, s => if counterReady s counter.toNat then none else some .state
  | .recctl target _, s => recctlStateFail target s
  | .reccfg _ _ _ _, s => if s.units.recorder.enabled then some .state else none
  | .release leaf, s => if beingWritten s leaf then some .state else none
  | .sealnow, s => if canSeal s then none else some .state
  | .mark _ _, s => if recording s then none else some .state
  | .wdset _ _ _, s => if s.supervisor.phase == .pulsing then some .state else none
  | .wdkick _, s => if s.supervisor.state == .off || s.supervisor.phase == .pulsing then some .state else none
  | .wdoff _, s => if s.supervisor.state == .watch || s.supervisor.phase == .pulsing then some .state else none
  | _, _ => none

/-- Stage 2 of R22: the effect of an accepted command. SYSRESET has none here: it takes the place of the stages. -/
def effectOf : Instr → State → State
  | .grant g v _ => grantEffect g v
  | .commit _ => commitEffect
  | .lock => fun s => { s with locked := true }
  | .unlock _ => fun s => { s with locked := false }
  | .hold n => holdEffect n
  | .standby _ => standbyEffect
  | .tbset prescaler => tbsetEffect prescaler
  | .incfg n config => incfgEffect n config
  | .bankctl control => bankctlEffect control
  | .banksnap selection => banksnapEffect selection
  | .cntset counter value => cntsetEffect counter value
  | .wrapcfg enables => wrapcfgEffect enables
  | .recctl target start => recctlEffect target start
  | .reccfg interval kinds k slots => reccfgEffect interval kinds k slots
  | .release leaf => releaseEffect leaf
  | .notemark leaf => notemarkEffect leaf
  | .sealnow => sealLeaf
  | .mark cls tag => markEffect cls tag
  | .winset space walk start stop => winsetEffect space walk start stop
  | .alertmask mask => alertmaskEffect mask
  | .alertack mask => alertackEffect mask
  | .wdset e w flags => wdsetEffect e w flags
  | .wdkick _ => wdkickEffect
  | .wdoff _ => wdoffEffect
  | _ => id

/-- What the six checks of R21 answer a known command. -/
def answerTo (c : Instr) (s : State) : Result :=
  verdict (kindOf c) (guardRight c) (operandsInRange c s) (stateRefusal c s) s

/-- A known command but SYSRESET is a completion event with this answer and this effect (R21, R22). -/
theorem exec_command {c : Instr} (hc : (commandBytes c).isSome = true) (hreset : isReset c = false) (s : State) :
    exec c s = .next (complete (answerTo c s) (effectOf c) s) := by
  cases c
  case sysreset => exact absurd hreset (by simp [isReset])
  all_goals first | rfl | exact absurd hc Bool.false_ne_true

/-- SYSRESET accepted is the command reset, and refused it is a completion event like any other (R22, R170). -/
theorem exec_sysreset (guard : Byte) (prm : Bool) (s : State) :
    exec (.sysreset guard prm) s = .next (
      if linkUp s && answerTo (.sysreset guard prm) s == .done then commandReset prm s
      else complete (answerTo (.sysreset guard prm) s) id s) := rfl

/-- Of the known commands SYSRESET alone is a reset (R170). -/
theorem eq_sysreset_of_isReset {c : Instr} (hc : (commandBytes c).isSome = true) (hreset : isReset c = true) :
    ∃ guard prm, c = .sysreset guard prm := by
  cases c
  case sysreset guard prm => exact ⟨guard, prm, rfl⟩
  all_goals first | exact absurd hc Bool.false_ne_true | exact absurd hreset Bool.false_ne_true

/-- The bytes of a known command run it as its own row does (R11). -/
theorem runCommand_eq_exec {c : Instr} (hc : (commandBytes c).isSome = true) (s : State) : runCommand c s = exec c s := by
  cases c
  all_goals first | rfl | exact absurd hc Bool.false_ne_true

/-! ## What the effects are -/

/-- What an accepted RECCTL does (R107 to R109): nothing, a start out of Off, a move between Ready and Running, or a
stop. -/
theorem recctlEffect_cases (target start : Byte) (s : State) :
    recctlEffect target start s = s ∨
    (∃ e t, s.units.recorder = .off ∧ (t = .ready ∨ t = .running) ∧ targetOf target = some t ∧
      startEntry start s = some e ∧ recctlEffect target start s = recorderStarts e t s) ∨
    (s.units.recorder = .ready ∧ targetOf target = some .running ∧ recctlEffect target start s =
      { s with units.recorder := .running, recorder.countdown := some s.recorder.config.interval }) ∨
    (s.units.recorder = .running ∧ recctlEffect target start s =
      { s with units.recorder := .ready, recorder.countdown := none }) ∨
    ((s.units.recorder = .ready ∨ s.units.recorder = .running) ∧ recctlEffect target start s =
      { recorderStops s with units.recorder := .off }) := by
  unfold recctlEffect
  split
  · exact .inl rfl
  · next t ht =>
    split
    · next hu => split <;> [(next e he => exact .inr (.inl ⟨e, .ready, hu, .inl rfl, ht, he, rfl⟩)); exact .inl rfl]
    · next hu => split <;> [(next e he => exact .inr (.inl ⟨e, .running, hu, .inr rfl, ht, he, rfl⟩)); exact .inl rfl]
    · next hu => exact .inr (.inr (.inl ⟨hu, ht, rfl⟩))
    · next hu => exact .inr (.inr (.inr (.inl ⟨hu, rfl⟩)))
    · next hu => exact .inr (.inr (.inr (.inr ⟨.inl hu, rfl⟩)))
    · next hu => exact .inr (.inr (.inr (.inr ⟨.inr hu, rfl⟩)))
    · exact .inl rfl

/-! ## What no effect touches -/



/-- GRANT's effect (R61). -/
@[simp] theorem grantEffect_keeps (g v : Byte) (s : State) :
    (grantEffect g v s).pending = s.pending ∧ (grantEffect g v s).inPins = s.inPins ∧
    (grantEffect g v s).outPins = s.outPins ∧ (grantEffect g v s).straps = s.straps ∧
    (grantEffect g v s).link = s.link ∧ (grantEffect g v s).life = s.life ∧ (grantEffect g v s).power = s.power ∧
    (grantEffect g v s).episode = s.episode ∧ (grantEffect g v s).resetCause = s.resetCause ∧
    (grantEffect g v s).resetCount = s.resetCount ∧ (grantEffect g v s).sweep = s.sweep ∧
    (grantEffect g v s).lastResult = s.lastResult ∧ (grantEffect g v s).locked = s.locked ∧
    (grantEffect g v s).hold = s.hold ∧ (grantEffect g v s).prescaler = s.prescaler ∧
    (grantEffect g v s).divider = s.divider ∧ (grantEffect g v s).timebase = s.timebase ∧
    (grantEffect g v s).permit = s.permit ∧ (grantEffect g v s).permitStab = s.permitStab ∧
    (grantEffect g v s).inputs = s.inputs ∧ (grantEffect g v s).freeze = s.freeze ∧
    (grantEffect g v s).capture = s.capture ∧ (grantEffect g v s).directory = s.directory ∧
    (grantEffect g v s).window = s.window ∧ (grantEffect g v s).supervisor = s.supervisor := by
  simp [grantEffect]

/-- STANDBY's effect (R164). -/
@[simp] theorem standbyEffect_keeps  (s : State) :
    (standbyEffect s).pending = s.pending ∧ (standbyEffect s).inPins = s.inPins ∧
    (standbyEffect s).outPins = s.outPins ∧ (standbyEffect s).straps = s.straps ∧ (standbyEffect s).link = s.link ∧
    (standbyEffect s).life = s.life ∧ (standbyEffect s).resetCause = s.resetCause ∧
    (standbyEffect s).resetCount = s.resetCount ∧ (standbyEffect s).sweep = s.sweep ∧
    (standbyEffect s).lastResult = s.lastResult ∧ (standbyEffect s).locked = s.locked ∧
    (standbyEffect s).hold = s.hold ∧ (standbyEffect s).prescaler = s.prescaler ∧
    (standbyEffect s).timebase = s.timebase ∧ (standbyEffect s).permit = s.permit ∧
    (standbyEffect s).permitStab = s.permitStab ∧ (standbyEffect s).inputs = s.inputs ∧
    (standbyEffect s).grantMask = s.grantMask ∧ (standbyEffect s).guardMask = s.guardMask ∧
    (standbyEffect s).units = s.units ∧ (standbyEffect s).counters = s.counters ∧
    (standbyEffect s).freeze = s.freeze ∧ (standbyEffect s).recorder = s.recorder ∧
    (standbyEffect s).capture = s.capture ∧ (standbyEffect s).directory = s.directory ∧
    (standbyEffect s).window = s.window ∧ (standbyEffect s).alerts = s.alerts ∧
    (standbyEffect s).supervisor = s.supervisor := by
  unfold standbyEffect; split_ifs <;> simp

/-- WDOFF's effect (R158). -/
@[simp] theorem wdoffEffect_keeps  (s : State) :
    (wdoffEffect s).pending = s.pending ∧ (wdoffEffect s).inPins = s.inPins ∧ (wdoffEffect s).outPins = s.outPins ∧
    (wdoffEffect s).straps = s.straps ∧ (wdoffEffect s).link = s.link ∧ (wdoffEffect s).life = s.life ∧
    (wdoffEffect s).power = s.power ∧ (wdoffEffect s).episode = s.episode ∧
    (wdoffEffect s).resetCause = s.resetCause ∧ (wdoffEffect s).resetCount = s.resetCount ∧
    (wdoffEffect s).sweep = s.sweep ∧ (wdoffEffect s).lastResult = s.lastResult ∧ (wdoffEffect s).locked = s.locked ∧
    (wdoffEffect s).hold = s.hold ∧ (wdoffEffect s).prescaler = s.prescaler ∧ (wdoffEffect s).divider = s.divider ∧
    (wdoffEffect s).timebase = s.timebase ∧ (wdoffEffect s).permit = s.permit ∧
    (wdoffEffect s).permitStab = s.permitStab ∧ (wdoffEffect s).inputs = s.inputs ∧
    (wdoffEffect s).grantMask = s.grantMask ∧ (wdoffEffect s).guardMask = s.guardMask ∧
    (wdoffEffect s).units = s.units ∧ (wdoffEffect s).counters = s.counters ∧ (wdoffEffect s).freeze = s.freeze ∧
    (wdoffEffect s).recorder = s.recorder ∧ (wdoffEffect s).capture = s.capture ∧
    (wdoffEffect s).directory = s.directory ∧ (wdoffEffect s).window = s.window ∧
    (wdoffEffect s).alerts = s.alerts := by
  unfold wdoffEffect; split_ifs <;> simp

/-- INCFG's effect (R50). -/
@[simp] theorem incfgEffect_keeps (n : Byte) (config : Half) (s : State) :
    (incfgEffect n config s).pending = s.pending ∧ (incfgEffect n config s).inPins = s.inPins ∧
    (incfgEffect n config s).outPins = s.outPins ∧ (incfgEffect n config s).straps = s.straps ∧
    (incfgEffect n config s).link = s.link ∧ (incfgEffect n config s).life = s.life ∧
    (incfgEffect n config s).power = s.power ∧ (incfgEffect n config s).episode = s.episode ∧
    (incfgEffect n config s).resetCause = s.resetCause ∧ (incfgEffect n config s).resetCount = s.resetCount ∧
    (incfgEffect n config s).sweep = s.sweep ∧ (incfgEffect n config s).lastResult = s.lastResult ∧
    (incfgEffect n config s).locked = s.locked ∧ (incfgEffect n config s).hold = s.hold ∧
    (incfgEffect n config s).prescaler = s.prescaler ∧ (incfgEffect n config s).divider = s.divider ∧
    (incfgEffect n config s).timebase = s.timebase ∧ (incfgEffect n config s).permit = s.permit ∧
    (incfgEffect n config s).permitStab = s.permitStab ∧ (incfgEffect n config s).grantMask = s.grantMask ∧
    (incfgEffect n config s).guardMask = s.guardMask ∧ (incfgEffect n config s).units = s.units ∧
    (incfgEffect n config s).counters = s.counters ∧ (incfgEffect n config s).freeze = s.freeze ∧
    (incfgEffect n config s).recorder = s.recorder ∧ (incfgEffect n config s).capture = s.capture ∧
    (incfgEffect n config s).directory = s.directory ∧ (incfgEffect n config s).window = s.window ∧
    (incfgEffect n config s).alerts = s.alerts ∧ (incfgEffect n config s).supervisor = s.supervisor := by
  unfold incfgEffect; split_ifs <;> simp

/-- CNTSET's effect (R87). -/
@[simp] theorem cntsetEffect_keeps (n : Byte) (v : Word) (s : State) :
    (cntsetEffect n v s).pending = s.pending ∧ (cntsetEffect n v s).inPins = s.inPins ∧
    (cntsetEffect n v s).outPins = s.outPins ∧ (cntsetEffect n v s).straps = s.straps ∧
    (cntsetEffect n v s).link = s.link ∧ (cntsetEffect n v s).life = s.life ∧ (cntsetEffect n v s).power = s.power ∧
    (cntsetEffect n v s).episode = s.episode ∧ (cntsetEffect n v s).resetCause = s.resetCause ∧
    (cntsetEffect n v s).resetCount = s.resetCount ∧ (cntsetEffect n v s).sweep = s.sweep ∧
    (cntsetEffect n v s).lastResult = s.lastResult ∧ (cntsetEffect n v s).locked = s.locked ∧
    (cntsetEffect n v s).hold = s.hold ∧ (cntsetEffect n v s).prescaler = s.prescaler ∧
    (cntsetEffect n v s).divider = s.divider ∧ (cntsetEffect n v s).timebase = s.timebase ∧
    (cntsetEffect n v s).permit = s.permit ∧ (cntsetEffect n v s).permitStab = s.permitStab ∧
    (cntsetEffect n v s).inputs = s.inputs ∧ (cntsetEffect n v s).grantMask = s.grantMask ∧
    (cntsetEffect n v s).guardMask = s.guardMask ∧ (cntsetEffect n v s).units = s.units ∧
    (cntsetEffect n v s).freeze = s.freeze ∧ (cntsetEffect n v s).recorder = s.recorder ∧
    (cntsetEffect n v s).capture = s.capture ∧ (cntsetEffect n v s).directory = s.directory ∧
    (cntsetEffect n v s).window = s.window ∧ (cntsetEffect n v s).alerts = s.alerts ∧
    (cntsetEffect n v s).supervisor = s.supervisor := by
  unfold cntsetEffect; split_ifs <;> simp

/-- WINSET's effect (R132). -/
@[simp] theorem winsetEffect_keeps (space walk : Byte) (start stop : Half) (s : State) :
    (winsetEffect space walk start stop s).pending = s.pending ∧
    (winsetEffect space walk start stop s).inPins = s.inPins ∧
    (winsetEffect space walk start stop s).outPins = s.outPins ∧
    (winsetEffect space walk start stop s).straps = s.straps ∧ (winsetEffect space walk start stop s).link = s.link ∧
    (winsetEffect space walk start stop s).life = s.life ∧ (winsetEffect space walk start stop s).power = s.power ∧
    (winsetEffect space walk start stop s).episode = s.episode ∧
    (winsetEffect space walk start stop s).resetCause = s.resetCause ∧
    (winsetEffect space walk start stop s).resetCount = s.resetCount ∧
    (winsetEffect space walk start stop s).sweep = s.sweep ∧
    (winsetEffect space walk start stop s).lastResult = s.lastResult ∧
    (winsetEffect space walk start stop s).locked = s.locked ∧ (winsetEffect space walk start stop s).hold = s.hold ∧
    (winsetEffect space walk start stop s).prescaler = s.prescaler ∧
    (winsetEffect space walk start stop s).divider = s.divider ∧
    (winsetEffect space walk start stop s).timebase = s.timebase ∧
    (winsetEffect space walk start stop s).permit = s.permit ∧
    (winsetEffect space walk start stop s).permitStab = s.permitStab ∧
    (winsetEffect space walk start stop s).inputs = s.inputs ∧
    (winsetEffect space walk start stop s).grantMask = s.grantMask ∧
    (winsetEffect space walk start stop s).guardMask = s.guardMask ∧
    (winsetEffect space walk start stop s).units = s.units ∧
    (winsetEffect space walk start stop s).counters = s.counters ∧
    (winsetEffect space walk start stop s).freeze = s.freeze ∧
    (winsetEffect space walk start stop s).recorder = s.recorder ∧
    (winsetEffect space walk start stop s).capture = s.capture ∧
    (winsetEffect space walk start stop s).directory = s.directory ∧
    (winsetEffect space walk start stop s).alerts = s.alerts ∧
    (winsetEffect space walk start stop s).supervisor = s.supervisor := by
  unfold winsetEffect; split <;> simp

/-- BANKSNAP's effect (R89). -/
@[simp] theorem banksnapEffect_keeps (selection : Byte) (s : State) :
    (banksnapEffect selection s).pending = s.pending ∧ (banksnapEffect selection s).inPins = s.inPins ∧
    (banksnapEffect selection s).outPins = s.outPins ∧ (banksnapEffect selection s).straps = s.straps ∧
    (banksnapEffect selection s).link = s.link ∧ (banksnapEffect selection s).life = s.life ∧
    (banksnapEffect selection s).power = s.power ∧ (banksnapEffect selection s).episode = s.episode ∧
    (banksnapEffect selection s).resetCause = s.resetCause ∧ (banksnapEffect selection s).resetCount = s.resetCount ∧
    (banksnapEffect selection s).sweep = s.sweep ∧ (banksnapEffect selection s).lastResult = s.lastResult ∧
    (banksnapEffect selection s).locked = s.locked ∧ (banksnapEffect selection s).hold = s.hold ∧
    (banksnapEffect selection s).prescaler = s.prescaler ∧ (banksnapEffect selection s).divider = s.divider ∧
    (banksnapEffect selection s).timebase = s.timebase ∧ (banksnapEffect selection s).permit = s.permit ∧
    (banksnapEffect selection s).permitStab = s.permitStab ∧ (banksnapEffect selection s).inputs = s.inputs ∧
    (banksnapEffect selection s).grantMask = s.grantMask ∧ (banksnapEffect selection s).guardMask = s.guardMask ∧
    (banksnapEffect selection s).units = s.units ∧ (banksnapEffect selection s).recorder = s.recorder ∧
    (banksnapEffect selection s).capture = s.capture ∧ (banksnapEffect selection s).directory = s.directory ∧
    (banksnapEffect selection s).window = s.window ∧ (banksnapEffect selection s).alerts = s.alerts ∧
    (banksnapEffect selection s).supervisor = s.supervisor := by
  rw [banksnapEffect_eq]; simp

/-- RECCTL's effect (R107 to R109). -/
@[simp] theorem recctlEffect_keeps (target start : Byte) (s : State) :
    (recctlEffect target start s).pending = s.pending ∧ (recctlEffect target start s).inPins = s.inPins ∧
    (recctlEffect target start s).outPins = s.outPins ∧ (recctlEffect target start s).straps = s.straps ∧
    (recctlEffect target start s).link = s.link ∧ (recctlEffect target start s).life = s.life ∧
    (recctlEffect target start s).power = s.power ∧ (recctlEffect target start s).episode = s.episode ∧
    (recctlEffect target start s).resetCause = s.resetCause ∧
    (recctlEffect target start s).resetCount = s.resetCount ∧ (recctlEffect target start s).sweep = s.sweep ∧
    (recctlEffect target start s).lastResult = s.lastResult ∧ (recctlEffect target start s).locked = s.locked ∧
    (recctlEffect target start s).hold = s.hold ∧ (recctlEffect target start s).prescaler = s.prescaler ∧
    (recctlEffect target start s).divider = s.divider ∧ (recctlEffect target start s).timebase = s.timebase ∧
    (recctlEffect target start s).permit = s.permit ∧ (recctlEffect target start s).permitStab = s.permitStab ∧
    (recctlEffect target start s).inputs = s.inputs ∧ (recctlEffect target start s).grantMask = s.grantMask ∧
    (recctlEffect target start s).guardMask = s.guardMask ∧ (recctlEffect target start s).freeze = s.freeze ∧
    (recctlEffect target start s).directory = s.directory ∧ (recctlEffect target start s).window = s.window ∧
    (recctlEffect target start s).supervisor = s.supervisor := by
  rcases recctlEffect_cases target start s with h | ⟨e, t, _, _, _, _, h⟩ | ⟨_, _, h⟩ | ⟨_, h⟩ | ⟨_, h⟩ <;> simp [h]

/-- RELEASE's effect (R127). -/
@[simp] theorem releaseEffect_keeps (leaf : Byte) (s : State) :
    (releaseEffect leaf s).pending = s.pending ∧ (releaseEffect leaf s).inPins = s.inPins ∧
    (releaseEffect leaf s).outPins = s.outPins ∧ (releaseEffect leaf s).straps = s.straps ∧
    (releaseEffect leaf s).link = s.link ∧ (releaseEffect leaf s).life = s.life ∧
    (releaseEffect leaf s).power = s.power ∧ (releaseEffect leaf s).episode = s.episode ∧
    (releaseEffect leaf s).resetCause = s.resetCause ∧ (releaseEffect leaf s).resetCount = s.resetCount ∧
    (releaseEffect leaf s).sweep = s.sweep ∧ (releaseEffect leaf s).lastResult = s.lastResult ∧
    (releaseEffect leaf s).locked = s.locked ∧ (releaseEffect leaf s).hold = s.hold ∧
    (releaseEffect leaf s).prescaler = s.prescaler ∧ (releaseEffect leaf s).divider = s.divider ∧
    (releaseEffect leaf s).timebase = s.timebase ∧ (releaseEffect leaf s).permit = s.permit ∧
    (releaseEffect leaf s).permitStab = s.permitStab ∧ (releaseEffect leaf s).inputs = s.inputs ∧
    (releaseEffect leaf s).grantMask = s.grantMask ∧ (releaseEffect leaf s).guardMask = s.guardMask ∧
    (releaseEffect leaf s).units = s.units ∧ (releaseEffect leaf s).counters = s.counters ∧
    (releaseEffect leaf s).freeze = s.freeze ∧ (releaseEffect leaf s).directory = s.directory ∧
    (releaseEffect leaf s).window = s.window ∧ (releaseEffect leaf s).alerts = s.alerts ∧
    (releaseEffect leaf s).supervisor = s.supervisor := by
  unfold releaseEffect; dsimp only; split_ifs <;> simp

/-- MARK's effect (R117). -/
@[simp] theorem markEffect_keeps (cls : Byte) (tag : Half) (s : State) :
    (markEffect cls tag s).pending = s.pending ∧ (markEffect cls tag s).inPins = s.inPins ∧
    (markEffect cls tag s).outPins = s.outPins ∧ (markEffect cls tag s).straps = s.straps ∧
    (markEffect cls tag s).link = s.link ∧ (markEffect cls tag s).life = s.life ∧
    (markEffect cls tag s).power = s.power ∧ (markEffect cls tag s).episode = s.episode ∧
    (markEffect cls tag s).resetCause = s.resetCause ∧ (markEffect cls tag s).resetCount = s.resetCount ∧
    (markEffect cls tag s).sweep = s.sweep ∧ (markEffect cls tag s).lastResult = s.lastResult ∧
    (markEffect cls tag s).locked = s.locked ∧ (markEffect cls tag s).hold = s.hold ∧
    (markEffect cls tag s).prescaler = s.prescaler ∧ (markEffect cls tag s).divider = s.divider ∧
    (markEffect cls tag s).timebase = s.timebase ∧ (markEffect cls tag s).permit = s.permit ∧
    (markEffect cls tag s).permitStab = s.permitStab ∧ (markEffect cls tag s).inputs = s.inputs ∧
    (markEffect cls tag s).grantMask = s.grantMask ∧ (markEffect cls tag s).guardMask = s.guardMask ∧
    (markEffect cls tag s).freeze = s.freeze ∧ (markEffect cls tag s).directory = s.directory ∧
    (markEffect cls tag s).window = s.window ∧ (markEffect cls tag s).supervisor = s.supervisor := by
  simp [markEffect]

/-- WDKICK's effect (R157). -/
@[simp] theorem wdkickEffect_keeps  (s : State) :
    (wdkickEffect s).pending = s.pending ∧ (wdkickEffect s).inPins = s.inPins ∧
    (wdkickEffect s).outPins = s.outPins ∧ (wdkickEffect s).straps = s.straps ∧ (wdkickEffect s).link = s.link ∧
    (wdkickEffect s).life = s.life ∧ (wdkickEffect s).power = s.power ∧ (wdkickEffect s).episode = s.episode ∧
    (wdkickEffect s).resetCause = s.resetCause ∧ (wdkickEffect s).resetCount = s.resetCount ∧
    (wdkickEffect s).sweep = s.sweep ∧ (wdkickEffect s).lastResult = s.lastResult ∧
    (wdkickEffect s).locked = s.locked ∧ (wdkickEffect s).hold = s.hold ∧ (wdkickEffect s).prescaler = s.prescaler ∧
    (wdkickEffect s).divider = s.divider ∧ (wdkickEffect s).timebase = s.timebase ∧
    (wdkickEffect s).permit = s.permit ∧ (wdkickEffect s).permitStab = s.permitStab ∧
    (wdkickEffect s).inputs = s.inputs ∧ (wdkickEffect s).grantMask = s.grantMask ∧
    (wdkickEffect s).guardMask = s.guardMask ∧ (wdkickEffect s).units = s.units ∧
    (wdkickEffect s).freeze = s.freeze ∧ (wdkickEffect s).recorder = s.recorder ∧
    (wdkickEffect s).capture = s.capture ∧ (wdkickEffect s).directory = s.directory ∧
    (wdkickEffect s).window = s.window := by
  simp [wdkickEffect]


/-! The effect of each command. -/

@[simp] theorem effectOf_nop : effectOf .nop = id := rfl
@[simp] theorem effectOf_grant (g v x : Byte) : effectOf (.grant g v x) = grantEffect g v := rfl
@[simp] theorem effectOf_commit (x : Byte) : effectOf (.commit x) = commitEffect := rfl
@[simp] theorem effectOf_lock : effectOf .lock = fun s => { s with locked := true } := rfl
@[simp] theorem effectOf_unlock (x : Byte) : effectOf (.unlock x) = fun s => { s with locked := false } := rfl
@[simp] theorem effectOf_hold (n : Byte) : effectOf (.hold n) = holdEffect n := rfl
@[simp] theorem effectOf_standby (x : Byte) : effectOf (.standby x) = standbyEffect := rfl
@[simp] theorem effectOf_tbset (prescaler : Byte) : effectOf (.tbset prescaler) = tbsetEffect prescaler := rfl
@[simp] theorem effectOf_incfg (n : Byte) (config : Half) : effectOf (.incfg n config) = incfgEffect n config := rfl
@[simp] theorem effectOf_bankctl (control : Byte) : effectOf (.bankctl control) = bankctlEffect control := rfl
@[simp] theorem effectOf_banksnap (selection : Byte) :
    effectOf (.banksnap selection) = banksnapEffect selection := rfl
@[simp] theorem effectOf_cntset (counter : Byte) (value : Word) :
    effectOf (.cntset counter value) = cntsetEffect counter value := rfl
@[simp] theorem effectOf_wrapcfg (enables : Byte) : effectOf (.wrapcfg enables) = wrapcfgEffect enables := rfl
@[simp] theorem effectOf_recctl (target start : Byte) :
    effectOf (.recctl target start) = recctlEffect target start := rfl
@[simp] theorem effectOf_reccfg (interval : BitVec 24) (kinds k : Byte) (slots : Vector Byte 8) :
    effectOf (.reccfg interval kinds k slots) = reccfgEffect interval kinds k slots := rfl
@[simp] theorem effectOf_release (leaf : Byte) : effectOf (.release leaf) = releaseEffect leaf := rfl
@[simp] theorem effectOf_notemark (leaf : Byte) : effectOf (.notemark leaf) = notemarkEffect leaf := rfl
@[simp] theorem effectOf_sealnow : effectOf .sealnow = sealLeaf := rfl
@[simp] theorem effectOf_mark (cls : Byte) (tag : Half) : effectOf (.mark cls tag) = markEffect cls tag := rfl
@[simp] theorem effectOf_winset (space walk : Byte) (start stop : Half) :
    effectOf (.winset space walk start stop) = winsetEffect space walk start stop := rfl
@[simp] theorem effectOf_alertmask (mask : Half) : effectOf (.alertmask mask) = alertmaskEffect mask := rfl
@[simp] theorem effectOf_alertack (mask : Half) : effectOf (.alertack mask) = alertackEffect mask := rfl
@[simp] theorem effectOf_wdset (e w flags : Byte) : effectOf (.wdset e w flags) = wdsetEffect e w flags := rfl
@[simp] theorem effectOf_wdkick (x : Byte) : effectOf (.wdkick x) = wdkickEffect := rfl
@[simp] theorem effectOf_wdoff (x : Byte) : effectOf (.wdoff x) = wdoffEffect := rfl
@[simp] theorem effectOf_sysreset (x : Byte) (prm : Bool) : effectOf (.sysreset x prm) = id := rfl

end Sys2Proof.Machine

end

section
/-! SUPPORT. What the commands leave alone, and what a known command answers in the terms of `Refuses` and `Accepts`
(R21, R22). -/

namespace Sys2Proof.Machine

open Sys2Proof.Safety

/-! ## What no effect, or one command's alone, touches -/

/-- No command's effect touches the queue of commands, the input pins, the straps, the link, the reset cause and count,
the result, the timebase, the permit or the directory. -/
@[simp] theorem effectOf_keeps {c : Instr} (hc : (commandBytes c).isSome = true) (s : State) :
    (effectOf c s).pending = s.pending ∧ (effectOf c s).inPins = s.inPins ∧ (effectOf c s).straps = s.straps ∧
    (effectOf c s).link = s.link ∧ (effectOf c s).resetCause = s.resetCause ∧
    (effectOf c s).resetCount = s.resetCount ∧ (effectOf c s).lastResult = s.lastResult ∧
    (effectOf c s).timebase = s.timebase ∧ (effectOf c s).directory = s.directory := by
  cases c
  case bankctl control => simp [bankctlEffect_eq, afterBankctl]
  case alertack mask => simp [alertackEffect_eq]
  case wdset e w flags => simp [wdsetEffect_eq]
  all_goals first
    | exact absurd hc Bool.false_ne_true
    | simp [commitEffect, holdEffect, tbsetEffect, wrapcfgEffect, reccfgEffect, notemarkEffect, alertmaskEffect]

/-- The life cycle moves by COMMIT alone, and the hold by HOLD. -/
theorem effectOf_life_hold {c : Instr} (hc : (commandBytes c).isSome = true) (s : State) :
    (isCommit c = false → (effectOf c s).life = s.life) ∧ (isHold c = false → (effectOf c s).hold = s.hold) := by
  cases c
  case bankctl control => simp [bankctlEffect_eq, afterBankctl]
  case alertack mask => simp [alertackEffect_eq]
  case wdset e w flags => simp [wdsetEffect_eq]
  all_goals first
    | exact absurd hc Bool.false_ne_true
    | simp [isCommit, isHold, commitEffect, holdEffect, tbsetEffect, wrapcfgEffect, reccfgEffect, notemarkEffect,
        alertmaskEffect]

theorem linkUp_effectOf {c : Instr} (hc : (commandBytes c).isSome = true) {s : State} (hup : linkUp s = true) :
    linkUp (effectOf c s) = true := by
  cases hcommit : isCommit c with
  | true =>
    cases c
    case commit => rfl
    all_goals exact absurd hcommit Bool.false_ne_true
  | false => rw [← hup]; simp only [linkUp, (effectOf_life_hold hc s).1 hcommit]

/-! ## The checks -/

/-- The six checks in their order (R21). -/
theorem answerTo_eq (c : Instr) (s : State) : answerTo c s =
    if s.locked = true ∧ passesLock c = false then .locked
    else if isProtected c = true ∧ guardRight c = false then .guard
    else if s.hold.active = true ∧ (isProtected c = true ∨ isHold c = true) then .held
    else if s.life = .committed ∧ (isPreCommitOnly c = true ∨ isCommit c = true) then .committed
    else if operandsInRange c s = false then .operand else (stateRefusal c s).getD .done := by
  simp [answerTo, verdict, kindOf]

/-- Check 3: an accepted protected command or HOLD found no hold active (R33). -/
theorem hold_inactive_of_done {c : Instr} {s : State} (hdone : answerTo c s = .done)
    (h : isProtected c = true ∨ isHold c = true) : s.hold.active = false := by
  refine eq_false_of_ne_true fun hactive => ?_
  rw [answerTo_eq, if_pos (show s.hold.active = true ∧ _ from ⟨hactive, h⟩)] at hdone
  split_ifs at hdone

/-- A command that is accepted inside a hold leaves the hold to its accounting. -/
theorem effectOf_hold_of_done {c : Instr} (hc : (commandBytes c).isSome = true) {s : State}
    (hdone : answerTo c s = .done) (hactive : s.hold.active = true) : (effectOf c s).hold = s.hold :=
  (effectOf_life_hold hc s).2
    (eq_false_of_ne_true fun hhold => by simp [hold_inactive_of_done hdone (.inr hhold)] at hactive)

/-- A known command but SYSRESET answers what the six checks say, with its effect if they all pass (R21, R22). -/
theorem answers_command {c : Instr} (hc : (commandBytes c).isSome = true) (hreset : isReset c = false) {s : State}
    (hup : linkUp s = true) :
    Answers c (answerTo c s) s (if answerTo c s = .done then effectOf c s else s) :=
  answers_of_complete (exec_command hc hreset s) hup (linkUp_effectOf hc hup) (effectOf_hold_of_done hc)

/-- A known command that a check refuses changes nothing else (R21, R22). -/
theorem refuses_of_answerTo {c : Instr} (hc : (commandBytes c).isSome = true) {s : State} (hup : linkUp s = true)
    {r : Result} (hr : answerTo c s = r) (hrefused : r ≠ .done) : Refuses c s r := by
  subst hr
  cases hreset : isReset c with
  | false => simpa only [if_neg hrefused] using answers_command hc hreset hup
  | true =>
    obtain ⟨guard, prm, rfl⟩ := eq_sysreset_of_isReset hc hreset
    refine answers_of_finishCommand ?_ hup fun _ => rfl
    rw [exec_sysreset, if_neg (by simp [hrefused]), complete_of_linkUp hup, if_neg hrefused]

/-- A known command that the six checks accept has its effect (R21, R22). -/
theorem accepts_of_answerTo {c : Instr} (hc : (commandBytes c).isSome = true) (hreset : isReset c = false) {s : State}
    (hup : linkUp s = true) (hdone : answerTo c s = .done) : Accepts c s (effectOf c s) := by
  simpa only [hdone, if_true] using answers_command hc hreset hup

theorem linkUp_of_passesFour {c : Instr} {s : State} (h : passesFour c s = true) : linkUp s = true := by
  unfold passesFour at h
  simp only [Bool.and_eq_true] at h
  obtain ⟨⟨⟨⟨hup, _⟩, _⟩, _⟩, _⟩ := h
  exact hup

/-- Where the first four checks pass, the other two decide (R21). -/
theorem answerTo_of_passesFour {c : Instr} {s : State} (h : passesFour c s = true) :
    answerTo c s = if operandsInRange c s then (stateRefusal c s).getD .done else .operand := by
  unfold passesFour at h
  simp only [Bool.and_eq_true, Bool.not_eq_true', Bool.or_eq_true] at h
  obtain ⟨⟨⟨⟨hup, hlock⟩, hguard⟩, hheld⟩, hcommitted⟩ := h
  unfold answerTo verdict kindOf
  dsimp only
  rw [if_neg, if_neg, if_neg, if_neg]
  · cases operandsInRange c s <;> rfl
  · simpa using hcommitted
  · simpa using hheld
  · rcases hguard with h | h <;> simp [h]
  · rcases hlock with h | h <;> simp [h]

/-- Check 5 refuses (R21). -/
theorem refuses_operand {c : Instr} (hc : (commandBytes c).isSome = true) {s : State} (hpass : passesFour c s = true)
    (hoperands : operandsInRange c s = false) : Refuses c s .operand :=
  refuses_of_answerTo hc (linkUp_of_passesFour hpass)
    (by rw [answerTo_of_passesFour hpass, hoperands]; rfl) (by decide)

/-- Check 6 refuses (R21). -/
theorem refuses_state {c : Instr} (hc : (commandBytes c).isSome = true) {s : State} (hpass : passesFour c s = true)
    {r : Result} (hoperands : operandsInRange c s = true) (hstate : stateRefusal c s = some r) (hr : r ≠ .done) :
    Refuses c s r :=
  refuses_of_answerTo hc (linkUp_of_passesFour hpass)
    (by rw [answerTo_of_passesFour hpass, hoperands, hstate]; rfl) hr

/-- All six checks pass (R21). -/
theorem accepts_command {c : Instr} (hc : (commandBytes c).isSome = true) (hreset : isReset c = false) {s : State}
    (hpass : passesFour c s = true) (hoperands : operandsInRange c s = true) (hstate : stateRefusal c s = none) :
    Accepts c s (effectOf c s) :=
  accepts_of_answerTo hc hreset (linkUp_of_passesFour hpass)
    (by rw [answerTo_of_passesFour hpass, hoperands, hstate]; rfl)

end Sys2Proof.Machine

end

section
/-! SUPPORT. The four first checks for every known command (R21), and the commands that set one thing. -/

namespace Sys2Proof.Machine

open Sys2Proof.Safety

/-! ## Checks 1 to 4 -/

/-- HOLD is neither pre-commit-only nor COMMIT (R29). -/
theorem not_isHold_of_preCommit {c : Instr} (h : isPreCommitOnly c = true ∨ isCommit c = true) : isHold c = false := by
  cases c
  case hold => simp [isPreCommitOnly, isCommit] at h
  all_goals rfl

section
variable {c : Instr} {s : State}

/-- Check 1 lets the command through. -/
theorem not_locked_of_unlocked (h : s.locked = true → passesLock c = true) :
    ¬(s.locked = true ∧ passesLock c = false) := fun ⟨hlocked, hlock⟩ => by simp [h hlocked] at hlock

/-- Check 2 lets the command through. -/
theorem not_guard_of_right (h : isProtected c = true → guardRight c = true) :
    ¬(isProtected c = true ∧ guardRight c = false) := fun ⟨hprotected, hguard⟩ => by simp [h hprotected] at hguard

theorem answerTo_of_locked (hlocked : s.locked = true) (hlock : passesLock c = false) : answerTo c s = .locked := by
  rw [answerTo_eq, if_pos ⟨hlocked, hlock⟩]

theorem answerTo_of_wrong_guard (hunlocked : s.locked = true → passesLock c = true) (hprotected : isProtected c = true)
    (hguard : guardRight c = false) : answerTo c s = .guard := by
  rw [answerTo_eq, if_neg (not_locked_of_unlocked hunlocked), if_pos ⟨hprotected, hguard⟩]

theorem answerTo_of_held (hunlocked : s.locked = true → passesLock c = true)
    (hguard : isProtected c = true → guardRight c = true) (hactive : s.hold.active = true)
    (hheld : isProtected c = true ∨ isHold c = true) : answerTo c s = .held := by
  rw [answerTo_eq, if_neg (not_locked_of_unlocked hunlocked), if_neg (not_guard_of_right hguard),
    if_pos ⟨hactive, hheld⟩]

theorem answerTo_of_committed (hunlocked : s.locked = true → passesLock c = true)
    (hguard : isProtected c = true → guardRight c = true ∧ s.hold.active = false) (hlife : s.life = .committed)
    (hpre : isPreCommitOnly c = true ∨ isCommit c = true) : answerTo c s = .committed := by
  have hheld : ¬(s.hold.active = true ∧ (isProtected c = true ∨ isHold c = true)) := by
    rintro ⟨hactive, hprotected | hhold⟩
    · simp [(hguard hprotected).2] at hactive
    · simp [not_isHold_of_preCommit hpre] at hhold
  rw [answerTo_eq, if_neg (not_locked_of_unlocked hunlocked), if_neg (not_guard_of_right fun h => (hguard h).1),
    if_neg hheld, if_pos ⟨hlife, hpre⟩]

end

/-! ## The end of a hold -/

@[simp] theorem resultCounted_hold (r : Result) (e : State) : (resultCounted r e).hold = e.hold := rfl

@[simp] theorem resultCounted_recorder (r : Result) (e : State) : (resultCounted r e).recorder = e.recorder := rfl

/-- ALERT# is evaluated last but for the parser's move (R22). -/
theorem pinSet_moveOn_evalAlert (s : State) : PinSet (moveOn (evalAlert s)) := rfl

theorem endHold_hold (s : State) :
    (endHold s).hold = { active := false, remaining := 0, ticks := 0, alertLow := false } := by
  simp [endHold]

/-- The deferral is settled (R116). -/
theorem endHold_deferred (s : State) : (endHold s).recorder.deferred = false := by
  unfold endHold settleDeferral
  dsimp only
  split_ifs with h
  · rfl
  · rfl
  · exact eq_false_of_ne_true h

theorem endHold_missed {s : State} (h : s.recorder.deferred = false → s.recorder.missed = 0) :
    (endHold s).recorder.missed = 0 := by
  unfold endHold settleDeferral
  dsimp only
  split_ifs with hdeferred
  · rfl
  · rfl
  · exact h (eq_false_of_ne_true hdeferred)

/-! ## A command's completion, whatever its answer -/

theorem exec_unknownCommand {s : State} (hup : linkUp s = true) :
    exec .unknownCommand s = .next (moveOn (finishCommand s.hold.active .unknown s)) :=
  congrArg Host.Outcome.next (complete_of_linkUp hup .unknown id)

/-- What an effect leaves of a deferral: no missed points without a deferred one (R116). -/
theorem effectOf_missed {c : Instr} (hc : (commandBytes c).isSome = true) {s : State}
    (h : s.recorder.deferred = false → s.recorder.missed = 0) :
    (effectOf c s).recorder.deferred = false → (effectOf c s).recorder.missed = 0 := by
  cases c
  case grant g v x =>
    rcases evaluateGrants_recorder { s with grantMask := g.setWidth 5, guardMask := v.setWidth 5 } with hr | hr
    · simpa only [effectOf_grant, grantEffect, hr] using h
    · simp [grantEffect, hr, recorderOff]
  case bankctl control => simpa [bankctlEffect_eq, afterBankctl] using h
  case alertack mask => simpa [alertackEffect_eq] using h
  case wdset e w flags => simpa [wdsetEffect_eq] using h
  case banksnap selection => simpa [banksnapEffect_eq] using h
  case release leaf => simpa [releaseEffect, apply_ite State.recorder, apply_ite Recorder.deferred, apply_ite Recorder.missed] using h
  case recctl target start =>
    rcases recctlEffect_cases target start s with he | ⟨e, t, _, _, _, _, he⟩ | ⟨_, _, he⟩ | ⟨_, he⟩ | ⟨_, he⟩
    all_goals simp [he, recorderStarts, recorderStops] <;> exact h
  all_goals first
    | exact absurd hc Bool.false_ne_true
    | simpa [commitEffect, holdEffect, tbsetEffect, wrapcfgEffect, reccfgEffect, notemarkEffect, alertmaskEffect, markEffect] using h

/-- A command with a known or an unknown code is stages 3 to 7 of R22 after its effect, which a refused one has not,
unless it is a SYSRESET that resets, which a hold refuses (R13, R21, R22). -/
theorem exec_isCommand {c : Instr} (hc : isCommand c = true) {s : State} (hup : linkUp s = true) :
    (∃ r e, exec c s = .next (moveOn (finishCommand s.hold.active r e)) ∧ linkUp e = true ∧
      (s.hold.active = true → e.hold = s.hold) ∧ (r ≠ .done → e = s) ∧
      ((s.recorder.deferred = false → s.recorder.missed = 0) → e.recorder.deferred = false → e.recorder.missed = 0)) ∨
    (∃ prm, exec c s = .next (commandReset prm s) ∧ s.hold.active = false) := by
  by_cases hunknown : c = .unknownCommand
  · subst hunknown
    exact .inl ⟨.unknown, s, exec_unknownCommand hup, hup, fun _ => rfl, fun _ => rfl, id⟩
  · have hknown : (commandBytes c).isSome = true := by simpa [isCommand, hunknown] using hc
    cases hreset : isReset c with
    | false =>
      refine .inl ⟨answerTo c s, if answerTo c s = .done then effectOf c s else s, ?_, ?_, fun hactive => ?_, ?_, ?_⟩
      · rw [exec_command hknown hreset, complete_of_linkUp hup]
      · split_ifs
        exacts [linkUp_effectOf hknown hup, hup]
      · split_ifs with hdone
        · exact effectOf_hold_of_done hknown hdone hactive
        · rfl
      · exact fun hrefused => if_neg hrefused
      · split_ifs
        exacts [effectOf_missed hknown, id]
    | true =>
      obtain ⟨guard, prm, rfl⟩ := eq_sysreset_of_isReset hknown hreset
      rw [exec_sysreset]
      split_ifs with hdone
      · obtain ⟨_, haccepted⟩ : linkUp s = true ∧ answerTo (.sysreset guard prm) s = .done := by simpa using hdone
        exact .inr ⟨prm, rfl, hold_inactive_of_done haccepted (.inl rfl)⟩
      · refine .inl ⟨answerTo (.sysreset guard prm) s, s, ?_, hup, fun _ => rfl, fun _ => rfl, id⟩
        rw [complete_of_linkUp hup]
        simp only [id, ite_self]

end Sys2Proof.Machine

open Sys2Proof Sys2Proof.Machine Sys2Proof.Safety

/-- Settles O25: each check's condition is the first that holds, and the completion of a refused command has no
effect. -/
theorem firstFourChecks : Obligations.FirstFourChecks := by
  unfold Obligations.FirstFourChecks
  intro c s hc hup unlocked
  refine ⟨fun hlocked hlock => ?_, fun hunlocked hprotected hguard => ?_, fun hunlocked hguard hactive hheld => ?_,
    fun hunlocked hguard hlife hpre => ?_⟩
  · exact refuses_of_answerTo hc hup (answerTo_of_locked hlocked hlock) (by decide)
  · exact refuses_of_answerTo hc hup (answerTo_of_wrong_guard hunlocked hprotected hguard) (by decide)
  · exact refuses_of_answerTo hc hup (answerTo_of_held hunlocked hguard hactive hheld) (by decide)
  · exact refuses_of_answerTo hc hup (answerTo_of_committed hunlocked hguard hlife hpre) (by decide)

/-- Settles O24: SYSRESET has no operand and no state check, and accepted it is the command reset, with none of stages 3
to 7 (R22). -/
theorem sysresetResets : Obligations.SysresetResets := by
  unfold Obligations.SysresetResets
  intro prm s hpass
  have hdone : answerTo (.sysreset 0xED prm) s = .done := answerTo_of_passesFour hpass
  rw [exec_sysreset, hdone, linkUp_of_passesFour hpass, ← satInc_byte]
  rfl

/-- Settles O28: a completion leaves the result it was given, so a result other than DONE is a refusal's. -/
theorem refusedCommandChangesNothing : Obligations.RefusedCommandChangesNothing := by
  unfold Obligations.RefusedCommandChangesNothing
  intro c s hc hup t hexec hrefused
  rcases exec_isCommand hc hup with ⟨r, e, hfinish, hupEffect, hhold, heffect, _⟩ | ⟨prm, hreset, _⟩
  · obtain rfl : moveOn (finishCommand s.hold.active r e) = t := by simpa [hfinish] using hexec
    have hr : (moveOn (finishCommand s.hold.active r e)).lastResult = r := by simp
    rw [hr] at hrefused ⊢
    obtain rfl := heffect hrefused
    exact answers_of_finishCommand hfinish hup fun _ => rfl
  · obtain rfl : commandReset prm s = t := by simpa [hreset] using hexec
    exact absurd rfl hrefused

/-- Settles O29: inside a hold the hold accounting is stage 5 of every completion, and SYSRESET is refused there. -/
theorem holdCountsCommands : Obligations.HoldCountsCommands := by
  unfold Obligations.HoldCountsCommands
  intro c s hc hup hactive
  rcases exec_isCommand hc hup with ⟨r, e, hfinish, hupEffect, hhold, _, hmissed⟩ | ⟨_, _, hinactive⟩
  · rw [hfinish, hactive]
    refine ⟨fun hmore => ⟨_, rfl, ?_⟩, fun hlast hnone => ⟨_, rfl, ?_⟩⟩
    · rw [finishCommand_eq, if_pos rfl, holdAccounting_of_more]
      · simp [hhold hactive]
      · simp [hhold hactive]; omega
    · rw [finishCommand_eq, if_pos rfl, holdAccounting_of_last]
      · refine ⟨?_, ?_, ?_, ?_, pinSet_moveOn_evalAlert _⟩
        · simp [endHold_hold]
        · simp [endHold_deferred]
        · simpa using endHold_missed (s := resultCounted r e) (hmissed hnone)
        · simp
      · simp [hhold hactive]; omega
  · simp [hinactive] at hactive

/-- Settles O23: LOCK passes all six checks, an unknown command takes none (R13), and WDOFF and STANDBY touch the
supervisor and the power state alone. -/
theorem lockWdoffAndStandby : Obligations.LockWdoffAndStandby := by
  unfold Obligations.LockWdoffAndStandby
  intro g s hup d off rest
  refine ⟨?_, ?_, ?_, ?_⟩
  · exact accepts_of_answerTo rfl rfl hup (show verdict { passesLock := true } true true none s = .done by simp [verdict])
  · exact answers_of_finishCommand (exec_unknownCommand hup) hup fun _ => rfl
  · have hanswer : answerTo (.wdoff g) s = off := by
      show verdict { guarded := true, preCommit := true } (guardOk 0x72 g) true
        (if s.supervisor.state == .watch || s.supervisor.phase == .pulsing then some .state else none) s = off
      simp [verdict, guardOk, off, apply_ite (Option.getD · Result.done), d]
    have heffect : (if off ≠ .done ∨ d.state = .off then s else
        { s with supervisor := { d with state := .off, phase := .quiet, count := 0, pulse := 0 } }) =
        if off = .done then wdoffEffect s else s := by
      unfold wdoffEffect
      cases hstate : s.supervisor.state with
      | off => simp
      | openWatch => by_cases hdone : off = .done <;> simp [d, hdone]
      | watch =>
        have hrefused : off ≠ .done := by simp [off, d, hstate, ite_eq_iff]
        simp [hrefused]
    rw [heffect, ← hanswer]
    exact answers_command (c := .wdoff g) rfl rfl hup
  · have hanswer : answerTo (.standby g) s = rest := by
      show verdict { guarded := true } (guardOk 0x16 g) true
        (if s.supervisor.state == .off then none else some .state) s = rest
      simp [verdict, guardOk, rest, apply_ite (Option.getD · Result.done), d]
    have heffect : (if rest ≠ .done ∨ s.power = .standby then s else
        { s with power := .standby, divider := 0, episode := s.episode + 1 }) =
        if rest = .done then standbyEffect s else s := by
      unfold standbyEffect
      cases hpower : s.power with
      | run => by_cases hdone : rest = .done <;> simp [hdone, wrapInc]
      | standby => simp
    rw [heffect, ← hanswer]
    exact answers_command (c := .standby g) rfl rfl hup

end

section
/-! SUPPORT. The operand checks of the commands in numbers (R21, check 5): what a reserved bit, a target, a slot list and
a window range have to be. -/

namespace Sys2Proof.Machine

open Sys2Proof.Safety

/-! ## The rows of the table that check operands or the state -/

theorem operandsInRange_grant (g v x : Byte) (s : State) :
    operandsInRange (.grant g v x) s = (g &&& 0xE0 == 0 && v &&& 0xE0 == 0) := rfl
theorem operandsInRange_incfg (n : Byte) (config : Half) (s : State) :
    operandsInRange (.incfg n config) s = (decide (n.toNat < 16) && config &&& 0xFE00 == 0) := rfl
theorem operandsInRange_banksnap (selection : Byte) (s : State) :
    operandsInRange (.banksnap selection) s = (selection &&& 0x0F != 0 && selection &&& 0xE0 == 0) := rfl
theorem operandsInRange_cntset (counter : Byte) (value : Word) (s : State) :
    operandsInRange (.cntset counter value) s = decide (counter.toNat < 45) := rfl
theorem operandsInRange_wrapcfg (enables : Byte) (s : State) :
    operandsInRange (.wrapcfg enables) s = (enables &&& 0xF0 == 0) := rfl
theorem operandsInRange_recctl (target start : Byte) (s : State) :
    operandsInRange (.recctl target start) s = recctlOperands target start s := rfl
theorem operandsInRange_alertmask (mask : Half) (s : State) :
    operandsInRange (.alertmask mask) s = (mask &&& 0xFE00 == 0) := rfl
theorem stateRefusal_cntset (counter : Byte) (value : Word) (s : State) :
    stateRefusal (.cntset counter value) s = if counterReady s counter.toNat then none else some .state := rfl
theorem stateRefusal_recctl (target start : Byte) (s : State) :
    stateRefusal (.recctl target start) s = recctlStateFail target s := rfl

/-! ## Reserved bits -/

/-- No bit from position `n` on is set exactly if the value is below `2 ^ n`. -/
theorem and_highMask_eq_zero_iff {w : Nat} (x : BitVec w) (n : Nat) :
    x &&& (BitVec.allOnes w <<< n) = 0 ↔ x.toNat < 2 ^ n := by
  have hshift : x &&& (BitVec.allOnes w <<< n) = x >>> n <<< n := by rw [BitVec.shiftLeft_ushiftRight]
  have hle : x.toNat / 2 ^ n * 2 ^ n ≤ x.toNat := Nat.div_mul_le_self _ _
  rw [hshift, ← BitVec.toNat_inj, BitVec.toNat_shiftLeft, BitVec.toNat_ushiftRight, Nat.shiftLeft_eq,
    Nat.shiftRight_eq_div_pow, Nat.mod_eq_of_lt (hle.trans_lt x.isLt)]
  simp [Nat.div_eq_zero_iff]

theorem and_E0_eq_zero_iff (x : Byte) : x &&& 0xE0 = 0 ↔ x.toNat < 32 := and_highMask_eq_zero_iff x 5

theorem and_F0_eq_zero_iff (x : Byte) : x &&& 0xF0 = 0 ↔ x.toNat < 16 := and_highMask_eq_zero_iff x 4

theorem and_FE00_eq_zero_iff (x : Half) : x &&& 0xFE00 = 0 ↔ x.toNat < 512 := and_highMask_eq_zero_iff x 9

/-! ## BANKCTL -/

/-- A bank is to run only if it is to be enabled (R70). -/
theorem bankRequest_isSome (control : Byte) (b : Bank) : (bankRequest control b).isSome = true ↔
    (control.getLsbD (b.index + 4) = true → control.getLsbD b.index = true) := by
  unfold bankRequest
  cases control.getLsbD b.index <;> cases control.getLsbD (b.index + 4) <;> simp [bankTarget]

/-- A Locked bank may stay Off only (R71). -/
theorem bankRefused_iff (control : Byte) (s : State) (b : Bank) (hrequest : (bankRequest control b).isSome = true) :
    bankRefused control s b = true ↔ s.units.bank b = .locked ∧ control.getLsbD b.index = true := by
  rw [bankRequest_isSome] at hrequest
  unfold bankRefused bankRequest
  cases hlow : control.getLsbD b.index <;> cases hhigh : control.getLsbD (b.index + 4) <;>
    simp_all [bankTarget, beq_eq_decide, bne]

theorem bankctl_operands_iff (control : Byte) :
    (allBanks.all fun b => (bankRequest control b).isSome) = true ↔ (control >>> 4) &&& ~~~control = 0 := by
  simp only [allBanks, List.all_cons, List.all_nil, Bool.and_eq_true, bankRequest_isSome, Bank.index]
  constructor
  · rintro ⟨h0, h1, h2, h3, -⟩
    refine BitVec.eq_of_getLsbD_eq fun i hi => ?_
    have hlow : control.getLsbD (4 + i) = true → control.getLsbD i = true := by
      interval_cases i <;> first | assumption | simp
    cases hbit : control.getLsbD (4 + i) <;> simp_all
  · intro h
    have hrun (i : Nat) (hi : i < 8) (hr : control.getLsbD (i + 4) = true) : control.getLsbD i = true := by
      have hbit : ((control >>> 4) &&& ~~~control).getLsbD i = false := by rw [h]; simp
      simpa [Nat.add_comm 4 i, hr, hi] using hbit
    exact ⟨hrun 0 (by omega), hrun 1 (by omega), hrun 2 (by omega), hrun 3 (by omega), trivial⟩

/-! ## RECCTL and RECCFG -/

/-- The targets of RECCTL are 1 to 3 (R73). -/
theorem targetOf_eq_none_iff (target : Byte) : targetOf target = none ↔ target = 0 ∨ 3 < target.toNat := by
  unfold targetOf
  rw [← BitVec.toNat_inj]
  split <;> simp_all; omega

/-- The first `n` members of a vector. -/
theorem all_take_iff {α : Type} {m : Nat} (v : Vector α m) (n : Nat) (p : α → Bool) :
    (v.toList.take n).all p = true ↔ ∀ j : Fin m, j.val < n → p v[j] = true := by
  rw [List.all_eq_true]
  constructor
  · intro h j hj
    refine h _ (List.mem_take_iff_getElem.mpr ⟨j, by simp [hj], ?_⟩)
    simp
  · intro h x hx
    obtain ⟨j, hj, rfl⟩ := List.mem_take_iff_getElem.mp hx
    simp only [Vector.length_toList, lt_min_iff] at hj
    simpa using h ⟨j, hj.2⟩ hj.1

/-- RECCFG's ranges (R105). -/
theorem reccfgOperands_iff (interval : BitVec 24) (kinds k : Byte) (slots : Vector Byte 8) :
    reccfgOperands interval kinds k slots = true ↔ interval ≠ 0 ∧ kinds.toNat < 16 ∧ k.toNat ≤ 8 ∧
      (kinds.getLsbD 1 = true → k ≠ 0) ∧ ∀ j : Fin 8, j.val < k.toNat → slots[j].toNat < 45 := by
  unfold reccfgOperands
  simp only [Bool.and_eq_true, all_take_iff, beq_iff_eq, and_F0_eq_zero_iff, decide_eq_true_eq, bne_iff_ne,
    Bool.not_eq_true', Bool.and_eq_false_iff, beq_eq_false_iff_ne, and_assoc]
  cases kinds.getLsbD 1 <;> simp

/-! ## WINSET -/

theorem spaceOf_spaceCode (space : Space) : spaceOf (spaceCode space) = some space := by cases space <;> rfl

theorem walkOf_walkCode (walk : Walk) : walkOf (walkCode walk) = some walk := by cases walk <;> rfl

/-- The space codes are 0 to 2 (R132). -/
theorem spaceOf_cases (b : Byte) : (2 < b.toNat ∧ spaceOf b = none) ∨ ∃ space, b = spaceCode space := by
  unfold spaceOf
  split
  · next h => exact .inr ⟨.capture, BitVec.eq_of_toNat_eq h⟩
  · next h => exact .inr ⟨.directory, BitVec.eq_of_toNat_eq h⟩
  · next h => exact .inr ⟨.freeze, BitVec.eq_of_toNat_eq h⟩
  · next h0 h1 h2 =>
    have hn0 : b.toNat ≠ 0 := h0
    have hn1 : b.toNat ≠ 1 := h1
    have hn2 : b.toNat ≠ 2 := h2
    exact .inl ⟨by omega, rfl⟩

/-- The walk codes are 0 to 2 (R132). -/
theorem walkOf_cases (b : Byte) : (2 < b.toNat ∧ walkOf b = none) ∨ ∃ walk, b = walkCode walk := by
  unfold walkOf
  split
  · next h => exact .inr ⟨.wrap, BitVec.eq_of_toNat_eq h⟩
  · next h => exact .inr ⟨.oneshot, BitVec.eq_of_toNat_eq h⟩
  · next h => exact .inr ⟨.seals, BitVec.eq_of_toNat_eq h⟩
  · next h0 h1 h2 =>
    have hn0 : b.toNat ≠ 0 := h0
    have hn1 : b.toNat ≠ 1 := h1
    have hn2 : b.toNat ≠ 2 := h2
    exact .inl ⟨by omega, rfl⟩

/-- The range that WINSET accepts (R132). -/
theorem winsetOperands_codes (space : Space) (walk : Walk) (start stop : Half) :
    winsetOperands (spaceCode space) (walkCode walk) start stop = true ↔ start.toNat ≤ stop.toNat ∧
      (walk = .seals → space = .capture ∧ stop.toNat ≤ 255) ∧ (walk ≠ .seals → stop.toNat < space.size) := by
  unfold winsetOperands
  rw [spaceOf_spaceCode, walkOf_walkCode]
  cases walk <;> simp [beq_eq_decide, and_comm]

theorem winsetOperands_of_no_space {space walk : Byte} {start stop : Half} (h : spaceOf space = none) :
    winsetOperands space walk start stop = false := by
  simp [winsetOperands, h]

theorem winsetOperands_of_no_walk {space walk : Byte} {start stop : Half} (h : walkOf walk = none) :
    winsetOperands space walk start stop = false := by
  unfold winsetOperands
  rw [h]
  cases spaceOf space <;> rfl

/-- The last address of each space (section 8.1). -/
theorem lt_size_iff (space : Space) (a : Half) : a.toNat < space.size ↔
    (space = .directory → a.toNat ≤ 255) ∧ (space = .freeze → a.toNat ≤ 195) := by
  have h := a.isLt
  cases space <;> simp [Space.size, Config.captureBytes, Config.directoryBytes, Config.freezeBytes] <;> omega

/-- The first byte of a SEALS walk stands at offset 240 of its leaf (R132). -/
theorem walkStart_seals (start : Half) : walkStart .seals start = BitVec.ofNat 16 (256 * start.toNat + 240) := by
  apply BitVec.eq_of_toNat_eq
  simp [walkStart, BitVec.toNat_add, BitVec.toNat_shiftLeft, Nat.shiftLeft_eq, Nat.mul_comm]

end Sys2Proof.Machine

end

section
/-! SUPPORT. The checks of the commands as the owning chapters state them, and the commands that replace a setting or move
units: each read off the table of the commands. -/

namespace Sys2Proof.Machine

open Sys2Proof.Safety

/-- A counter's number as an operand. -/
theorem toNat_counterOperand (k : Fin 45) : (BitVec.ofNat 8 k.val).toNat = k.val := by
  simp only [BitVec.toNat_ofNat]
  omega

/-- CNTSET asks for a Ready bank (R87). -/
theorem counterReady_counterOperand (s : State) (k : Fin 45) :
    counterReady s (BitVec.ofNat 8 k.val).toNat = (s.units.bank (bankOf k) == .ready) := by
  unfold counterReady
  rw [toNat_counterOperand]
  simp

/-- CNTSET writes its counter alone (R87). -/
theorem cntsetEffect_counterOperand (k : Fin 45) (value : Word) (s : State) :
    cntsetEffect (BitVec.ofNat 8 k.val) value s =
      { s with counters := { s.counters with value := s.counters.value.set k.val value } } := by
  unfold cntsetEffect
  simp [toNat_counterOperand, -BitVec.toNat_ofNat]

/-- The edge mode that the two bits name (R50). -/
theorem edgeModeOf_eq (c : BitVec 2) : edgeModeOf c =
    if c = 0 then .none else if c = 1 then .rise else if c = 2 then .fall else .both := by
  have h : c = 0 ∨ c = 1 ∨ c = 2 ∨ c = 3 := by revert c; decide
  rcases h with rfl | rfl | rfl | rfl <;> rfl

/-- INCFG replaces the configuration of its input and restarts its filter (R50, R54). -/
theorem incfgEffect_inputOperand (n : Fin 16) (config : Half) (s : State) :
    incfgEffect (BitVec.ofNat 8 n.val) config s =
      { s with inputs := s.inputs.set n.val (configureInput config s.inputs[n]) } := by
  have hn : (BitVec.ofNat 8 n.val).toNat = n.val := by
    simp only [BitVec.toNat_ofNat]
    omega
  unfold incfgEffect
  simp [hn, -BitVec.toNat_ofNat]

end Sys2Proof.Machine

open Sys2Proof Sys2Proof.Machine Sys2Proof.Safety

/-- Settles O26: check 5 of the table, command by command. -/
theorem operandsOutOfRange : Obligations.OperandsOutOfRange := by
  unfold Obligations.OperandsOutOfRange
  intro a b x y v i slots s
  refine ⟨fun hpass h => refuses_operand rfl hpass ?_, fun hpass h => refuses_operand rfl hpass ?_,
    fun hpass h => refuses_operand rfl hpass ?_, fun hpass h => refuses_operand rfl hpass ?_,
    fun hpass h => refuses_operand rfl hpass ?_, fun hpass h => refuses_operand rfl hpass ?_,
    fun hpass h => refuses_operand rfl hpass ?_, fun hpass htarget hoff hb => refuses_operand rfl hpass ?_,
    fun hpass h => refuses_operand rfl hpass ?_, fun hpass h => refuses_operand rfl hpass ?_,
    fun hpass h => refuses_operand rfl hpass ?_⟩ <;> rw [← Bool.not_eq_true]
  case refine_1 =>
    rw [operandsInRange_grant, Bool.and_eq_true, beq_iff_eq, beq_iff_eq, and_E0_eq_zero_iff, and_E0_eq_zero_iff]
    omega
  case refine_2 =>
    rw [operandsInRange_incfg, Bool.and_eq_true, beq_iff_eq, decide_eq_true_iff, and_FE00_eq_zero_iff]
    omega
  case refine_3 => exact fun hall => h ((bankctl_operands_iff a).mp hall)
  case refine_4 =>
    rw [operandsInRange_banksnap, Bool.and_eq_true, beq_iff_eq, bne_iff_ne, and_E0_eq_zero_iff]
    rintro ⟨hsome, hlow⟩
    exact h.elim (fun h => absurd hlow (by omega)) hsome
  case refine_5 => simpa [operandsInRange_cntset] using h
  case refine_6 =>
    rw [operandsInRange_wrapcfg, beq_iff_eq, and_F0_eq_zero_iff]
    omega
  case refine_7 => simp [operandsInRange_recctl, recctlOperands, (targetOf_eq_none_iff a).mpr h]
  case refine_8 =>
    have hstart : startEntry b s = none := by simp [startEntry, Nat.not_lt.mpr hb]
    rcases htarget with rfl | rfl <;>
      simp [operandsInRange_recctl, recctlOperands, targetOf, startIsOperand, hoff, hstart]
  case refine_9 =>
    refine fun hrange => ?_
    obtain ⟨hinterval, hkinds, hk, hextended, hslots⟩ := (reccfgOperands_iff i a b slots).mp hrange
    rcases h with rfl | h | h | ⟨h, rfl⟩ | ⟨j, hj, h⟩
    · exact hinterval rfl
    · omega
    · omega
    · exact hextended h rfl
    · exact absurd (hslots j hj) (by omega)
  case refine_10 =>
    refine fun hrange => ?_
    rcases spaceOf_cases a with ⟨-, hspace⟩ | ⟨space, rfl⟩
    · exact absurd hrange (by simp [operandsInRange, winsetOperands_of_no_space hspace])
    rcases walkOf_cases b with ⟨-, hwalk⟩ | ⟨walk, rfl⟩
    · exact absurd hrange (by simp [operandsInRange, winsetOperands_of_no_walk hwalk])
    obtain ⟨hle, hseals, hwalks⟩ := (winsetOperands_codes space walk x y).mp hrange
    rw [lt_size_iff] at hwalks
    cases space <;> cases walk <;> simp_all [spaceCode, walkCode] <;> omega
  case refine_11 =>
    rw [operandsInRange_alertmask, beq_iff_eq, and_FE00_eq_zero_iff]
    omega

/-- Settles O27: check 6 of the table, command by command. -/
theorem statesNotMet : Obligations.StatesNotMet := by
  unfold Obligations.StatesNotMet
  intro a b k v i slots tag s
  refine ⟨fun hpass hbank => ?_, fun hpass hbits hlocked => ?_, fun hpass htarget hlocked => ?_,
    fun hpass hready hplaced => ?_, fun hpass hrange hrecorder => ?_, fun hpass hplaced hblocked hleaf => ?_,
    fun hpass hnone => ?_, fun hpass hrecorder => ?_⟩
  · refine refuses_state rfl hpass ?_ ?_ (by decide)
    · rw [operandsInRange_cntset, toNat_counterOperand, decide_eq_true k.isLt]
    · simp [stateRefusal_cntset, counterReady_counterOperand, beq_eq_decide, hbank, -BitVec.toNat_ofNat]
  · have hall := (bankctl_operands_iff a).mpr hbits
    refine refuses_state rfl hpass hall (if_pos ?_) (by decide)
    obtain ⟨bank, hmem, hbank, hbit⟩ := hlocked
    exact List.any_eq_true.mpr ⟨bank, hmem,
      (bankRefused_iff a s bank (List.all_eq_true.mp hall bank hmem)).mpr ⟨hbank, hbit⟩⟩
  · refine refuses_state rfl hpass ?_ ?_ (by decide) <;>
      rcases htarget with rfl | rfl <;>
      simp [operandsInRange_recctl, stateRefusal_recctl, recctlOperands, recctlStateFail, targetOf, startIsOperand, hlocked,
        beq_eq_decide]
  · refine refuses_state rfl hpass ?_ ?_ (by decide) <;>
      simp [operandsInRange_recctl, stateRefusal_recctl, recctlOperands, recctlStateFail, targetOf, startIsOperand, hready,
        hplaced, beq_eq_decide]
  · refine refuses_state rfl hpass ((reccfgOperands_iff i a b slots).mpr hrange) (if_pos ?_) (by decide)
    rcases hrecorder with h | h <;> rw [h] <;> rfl
  · exact refuses_state rfl hpass rfl (if_pos (by simp [beingWritten, hplaced, hblocked, hleaf])) (by decide)
  · refine refuses_state rfl hpass rfl (if_neg ?_) (by decide)
    rcases hnone with h | h | h <;> simp [canSeal, h]
  · exact refuses_state rfl hpass rfl (if_neg (by simpa [recording, beq_eq_decide] using hrecorder)) (by decide)

/-- Settles O30: the five effects as replaced settings. -/
theorem settingsCommands : Obligations.SettingsCommands := by
  unfold Obligations.SettingsCommands
  intro p n k config value s
  refine ⟨fun hpass => ?_, fun hpass hconfig => ?_, fun hpass hready => ?_, fun hpass hp => ?_,
    fun hpass hconfig => ?_⟩
  · exact accepts_command (c := .tbset p) rfl rfl hpass rfl rfl
  · have h := accepts_command (c := .incfg (BitVec.ofNat 8 n.val) config) rfl rfl hpass
      (by
        rw [operandsInRange_incfg, Bool.and_eq_true, beq_iff_eq, decide_eq_true_iff, and_FE00_eq_zero_iff]
        exact ⟨by simp only [BitVec.toNat_ofNat]; omega, hconfig⟩) rfl
    rw [effectOf_incfg, incfgEffect_inputOperand] at h
    simpa only [configureInput, edgeModeOf_eq, BitVec.setWidth_eq_extractLsb' (show 4 ≤ 16 by decide)] using h
  · have h := accepts_command (c := .cntset (BitVec.ofNat 8 k.val) value) rfl rfl hpass
      (by rw [operandsInRange_cntset, toNat_counterOperand, decide_eq_true k.isLt])
      (by simp [stateRefusal_cntset, counterReady_counterOperand, hready, -BitVec.toNat_ofNat])
    rwa [effectOf_cntset, cntsetEffect_counterOperand] at h
  · exact accepts_command (c := .wrapcfg p) rfl rfl hpass
      (by rwa [operandsInRange_wrapcfg, beq_iff_eq, and_F0_eq_zero_iff]) rfl
  · exact accepts_command (c := .alertmask config) rfl rfl hpass
      (by rwa [operandsInRange_alertmask, beq_iff_eq, and_FE00_eq_zero_iff]) rfl

/-- Settles O32: the codes name the space and the walk, and SEALS starts at offset 240. -/
theorem winsetPlacesThePointer : Obligations.WinsetPlacesThePointer := by
  unfold Obligations.WinsetPlacesThePointer
  intro space walk start stop s hpass hle hseals hwalks
  have hrange : winsetOperands (spaceCode space) (walkCode walk) start stop = true :=
    (winsetOperands_codes space walk start stop).mpr
      ⟨hle, hseals, fun hwalk => (lt_size_iff space stop).mpr (hwalks hwalk)⟩
  have h := accepts_command (c := .winset (spaceCode space) (walkCode walk) start stop) rfl rfl hpass hrange rfl
  have heffect : winsetEffect (spaceCode space) (walkCode walk) start stop s = { s with
      window := { s.window with
        space := space, walk := walk, start := start, stop := stop, exhausted := false
        ptr := if walk = .seals then BitVec.ofNat 16 (256 * start.toNat + 240) else start } } := by
    unfold winsetEffect
    rw [spaceOf_spaceCode, walkOf_walkCode]
    cases walk
    · rfl
    · rfl
    · simp only [walkStart_seals, if_true]
  rwa [effectOf_winset, heffect] at h

/-- Settles O33: both events evaluate G, unit by unit, on an empty queue. -/
theorem evaluationOfGrants : Obligations.EvaluationOfGrants := by
  unfold Obligations.EvaluationOfGrants
  intro grantMask guardMask prm s hqueue
  refine ⟨fun hpass hgrant hguard => ?_, fun htick hprm hstab => ?_, fun hnone => ?_⟩
  · have h := accepts_command (c := .grant grantMask guardMask 0xEF) rfl rfl hpass
      (by
        rw [operandsInRange_grant, Bool.and_eq_true, beq_iff_eq, beq_iff_eq, and_E0_eq_zero_iff, and_E0_eq_zero_iff]
        exact ⟨hgrant, hguard⟩) rfl
    rwa [effectOf_grant, grantEffect, evaluateGrants_eq (by exact hqueue)] at h
  · have hdue : permitDue prm s = true := by simp [permitDue, hprm, hstab]
    show Host.Outcome.next _ = _
    rw [htick, hdue, Bool.and_self, if_pos rfl, permitStep, if_neg hprm, if_pos hstab, evaluateGrants_eq (by exact hqueue)]
  · have hdue : permitDue prm s = false := by
      unfold permitDue
      rcases hnone with h | h
      · rw [h, bne_self_eq_false, Bool.false_and]
      · rw [beq_false_of_ne h, Bool.and_false]
    show Host.Outcome.next _ = _
    rw [hdue, Bool.and_false, if_neg Bool.false_ne_true]

/-- Settles O34: the four moves as one update. -/
theorem bankctlMovesAllBanks : Obligations.BankctlMovesAllBanks := by
  unfold Obligations.BankctlMovesAllBanks
  intro control s hpass hbits hlocked
  have hall := (bankctl_operands_iff control).mpr hbits
  have hnone : allBanks.any (bankRefused control s) = false := by
    refine List.any_eq_false.mpr fun b hb hrefused => ?_
    obtain ⟨hbank, hbit⟩ := (bankRefused_iff control s b (List.all_eq_true.mp hall b hb)).mp hrefused
    exact absurd (hlocked b hb hbank) (by simp [hbit])
  have h := accepts_command (c := .bankctl control) rfl rfl hpass hall (if_neg (by simp [hnone]))
  rwa [effectOf_bankctl, bankctlEffect_eq] at h

/-- Settles O36: the rows of RECCTL's table that take no start entry, and RECCFG. -/
theorem recctlMovesAndReccfgStores : Obligations.RecctlMovesAndReccfgStores := by
  unfold Obligations.RecctlMovesAndReccfgStores
  intro start interval kinds k slots s
  have haccept (target : Byte) (hpass : passesFour (.recctl target start) s = true)
      (hoperands : recctlOperands target start s = true) (hstate : recctlStateFail target s = none) {t : State}
      (heffect : recctlEffect target start s = t) : Accepts (.recctl target start) s t :=
    heffect ▸ accepts_command (c := .recctl target start) rfl rfl hpass hoperands hstate
  refine ⟨fun hpass hidle => ?_, fun hpass hready => ?_, fun hpass hrunning => ?_, fun hpass hready hplaced => ?_,
    fun hpass hrunning => ?_, fun hpass hmoving hqueue => ?_,
    fun hpass hinterval hkinds hk hextended hslots hidle => ?_⟩
  · rcases hidle with h | h <;> refine haccept 1 hpass ?_ ?_ ?_ <;>
      simp [recctlOperands, recctlStateFail, recctlEffect, targetOf, startIsOperand, h, beq_eq_decide]
  · refine haccept 2 hpass ?_ ?_ ?_ <;>
      simp [recctlOperands, recctlStateFail, recctlEffect, targetOf, startIsOperand, hready, beq_eq_decide]
  · refine haccept 3 hpass ?_ ?_ ?_ <;>
      simp [recctlOperands, recctlStateFail, recctlEffect, targetOf, startIsOperand, hrunning, beq_eq_decide]
  · refine haccept 3 hpass ?_ ?_ ?_ <;>
      simp [recctlOperands, recctlStateFail, recctlEffect, targetOf, startIsOperand, hready, hplaced, beq_eq_decide]
  · refine haccept 2 hpass ?_ ?_ ?_ <;>
      simp [recctlOperands, recctlStateFail, recctlEffect, targetOf, startIsOperand, hrunning, beq_eq_decide]
  · have heffect : recctlEffect 1 start s = { recorderStops s with units.recorder := .off } := by
      rcases hmoving with h | h <;> simp [recctlEffect, targetOf, h]
    rw [recorderStops_of_empty hqueue] at heffect
    rcases hmoving with h | h <;> refine haccept 1 hpass ?_ ?_ heffect <;>
      simp [recctlOperands, recctlStateFail, targetOf, startIsOperand, h, beq_eq_decide]
  · refine accepts_command (c := .reccfg interval kinds k slots) rfl rfl hpass
      ((reccfgOperands_iff interval kinds k slots).mpr ⟨hinterval, hkinds, hk, hextended, hslots⟩) (if_neg ?_)
    rcases hidle with h | h <;> rw [h] <;> exact Bool.false_ne_true

end

section
/-! SUPPORT. A field and its bytes, both ways, and the table of the command codes against the bytes of the commands
(section 2.3). -/

namespace Sys2Proof

/-! ## A field and its bytes -/

/-- A bit of a byte of a field is that bit of the field. -/
theorem getLsbD_byteAt {w : Nat} (x : BitVec w) (i j : Nat) :
    (byteAt x i).getLsbD j = (decide (j < 8) && x.getLsbD (8 * i + j)) :=
  BitVec.getLsbD_extractLsb' (8 * i) 8 x j

/-- Two bytes make up a field of 16 bits. -/
theorem byteAt_append_two (x : Half) : byteAt x 1 ++ byteAt x 0 = x := by
  refine BitVec.eq_of_getLsbD_eq fun i hi => ?_
  simp only [BitVec.getLsbD_append, getLsbD_byteAt]
  split <;> simp <;> grind

/-- Three bytes make up a field of 24 bits. -/
theorem byteAt_append_three (x : BitVec 24) : byteAt x 2 ++ byteAt x 1 ++ byteAt x 0 = x := by
  refine BitVec.eq_of_getLsbD_eq fun i hi => ?_
  simp only [BitVec.getLsbD_append, getLsbD_byteAt]
  split_ifs <;> simp <;> grind

/-- Four bytes make up a field of 32 bits. -/
theorem byteAt_append_four (x : Word) : byteAt x 3 ++ byteAt x 2 ++ byteAt x 1 ++ byteAt x 0 = x := by
  refine BitVec.eq_of_getLsbD_eq fun i hi => ?_
  simp only [BitVec.getLsbD_append, getLsbD_byteAt]
  split_ifs <;> simp <;> grind

/-- The lowest byte of a field is the one at its right end. -/
@[simp] theorem byteAt_append_zero {w : Nat} (high : BitVec w) (low : Byte) : byteAt (high ++ low) 0 = low := by
  refine BitVec.eq_of_getLsbD_eq fun i hi => ?_
  simp [getLsbD_byteAt, BitVec.getLsbD_append, hi, -BitVec.getLsbD_eq_getElem]

/-- The other bytes of a field are those of what stands above the lowest. -/
@[simp] theorem byteAt_append_succ {w : Nat} (high : BitVec w) (low : Byte) (i : Nat) :
    byteAt (high ++ low) (i + 1) = byteAt high i := by
  refine BitVec.eq_of_getLsbD_eq fun j hj => ?_
  have hnot : ¬(8 * (i + 1) + j < 8) := by omega
  have hsub : 8 * (i + 1) + j - 8 = 8 * i + j := by omega
  simp [getLsbD_byteAt, BitVec.getLsbD_append, hnot, hsub]

/-- A byte has one byte. -/
@[simp] theorem byteAt_byte_zero (x : Byte) : byteAt x 0 = x := by
  refine BitVec.eq_of_getLsbD_eq fun i hi => ?_
  simp [getLsbD_byteAt, hi, -BitVec.getLsbD_eq_getElem]

/-- The eight slots of RECCFG, one by one. -/
theorem eq_eight_slots (v : Vector Byte 8) : v = #v[v[0], v[1], v[2], v[3], v[4], v[5], v[6], v[7]] := by
  ext i hi
  interval_cases i <;> rfl

/-! ## The lengths of the commands -/

/-- The known codes by their lengths (section 2.3). -/
def codesOfLength : Nat → List Byte
  | 1 => [0x00, 0x13, 0x44]
  | 2 => [0x11, 0x12, 0x14, 0x15, 0x16, 0x17, 0x30, 0x31, 0x33, 0x42, 0x43, 0x71, 0x72]
  | 3 => [0x40, 0x60, 0x61]
  | 4 => [0x10, 0x20, 0x45, 0x70]
  | 6 => [0x32]
  | 7 => [0x50]
  | 14 => [0x41]
  | _ => []

/-- The table of the lengths lists each known code under its length. -/
theorem mem_codesOfLength {code : Byte} {n : Nat} (h : commandLength code = some n) : code ∈ codesOfLength n := by
  have hcode : BitVec.ofNat 8 code.toNat = code := by simp
  unfold commandLength at h
  split at h
  case h_27 => exact nomatch h
  all_goals
    next hnat =>
    rw [hnat] at hcode
    subst hcode
    cases h
    decide

/-- An unknown code spells nothing. -/
theorem commandOf_of_unknown {code : Byte} (h : commandLength code = none) (prm : Bool) (rest : List Byte) :
    commandOf prm (code :: rest) = none := by
  obtain ⟨n, hn, rfl⟩ : ∃ n < 256, code = BitVec.ofNat 8 n := ⟨code.toNat, code.isLt, by simp⟩
  interval_cases n <;> first | exact absurd h (Option.some_ne_none _) | rfl

/-- The bytes of a known command start with a code whose length is their number (R10). -/
theorem commandLength_of_commandBytes {c : Instr} {code : Byte} {rest : List Byte}
    (h : commandBytes c = some (code :: rest)) : commandLength code = some (rest.length + 1) := by
  cases c
  all_goals first
    | exact absurd h.symm (Option.some_ne_none _)
    | (obtain ⟨rfl, rfl⟩ := List.cons.inj (Option.some.inj h); simp; rfl)

/-- The code and the operands of a spelled command are its bytes (R11): for each length, the shape of the operands
decides whether a command is spelled, and which. -/
theorem commandBytes_of_commandOf {prm : Bool} {code : Byte} {rest : List Byte} {c : Instr}
    (h : commandOf prm (code :: rest) = some c) : commandBytes c = some (code :: rest) := by
  cases hlength : commandLength code with
  | none => exact nomatch (commandOf_of_unknown hlength prm rest).symm.trans h
  | some n =>
    have hcode := mem_codesOfLength hlength
    unfold codesOfLength at hcode
    split at hcode <;> simp only [List.mem_cons, List.not_mem_nil, or_false] at hcode
    case h_1 =>
      rcases hcode with rfl | rfl | rfl <;> rcases rest with _ | ⟨x0, rest⟩ <;>
        first | exact absurd h.symm (Option.some_ne_none _) | (obtain rfl := Option.some.inj h; exact congrArg some (by simp))
    case h_2 =>
      rcases hcode with rfl | rfl | rfl | rfl | rfl | rfl | rfl | rfl | rfl | rfl | rfl | rfl | rfl <;> rcases rest with _ | ⟨x0, _ | ⟨x1, rest⟩⟩ <;>
        first | exact absurd h.symm (Option.some_ne_none _) | (obtain rfl := Option.some.inj h; exact congrArg some (by simp))
    case h_3 =>
      rcases hcode with rfl | rfl | rfl <;> rcases rest with _ | ⟨x0, _ | ⟨x1, _ | ⟨x2, rest⟩⟩⟩ <;>
        first | exact absurd h.symm (Option.some_ne_none _) | (obtain rfl := Option.some.inj h; exact congrArg some (by simp))
    case h_4 =>
      rcases hcode with rfl | rfl | rfl | rfl <;> rcases rest with _ | ⟨x0, _ | ⟨x1, _ | ⟨x2, _ | ⟨x3, rest⟩⟩⟩⟩ <;>
        first | exact absurd h.symm (Option.some_ne_none _) | (obtain rfl := Option.some.inj h; exact congrArg some (by simp))
    case h_5 =>
      subst hcode
      rcases rest with _ | ⟨x0, _ | ⟨x1, _ | ⟨x2, _ | ⟨x3, _ | ⟨x4, _ | ⟨x5, rest⟩⟩⟩⟩⟩⟩ <;>
        first | exact absurd h.symm (Option.some_ne_none _) | (obtain rfl := Option.some.inj h; exact congrArg some (by simp))
    case h_6 =>
      subst hcode
      rcases rest with _ | ⟨x0, _ | ⟨x1, _ | ⟨x2, _ | ⟨x3, _ | ⟨x4, _ | ⟨x5, _ | ⟨x6, rest⟩⟩⟩⟩⟩⟩⟩ <;>
        first | exact absurd h.symm (Option.some_ne_none _) | (obtain rfl := Option.some.inj h; exact congrArg some (by simp))
    case h_7 =>
      subst hcode
      rcases rest with _ | ⟨x0, _ | ⟨x1, _ | ⟨x2, _ | ⟨x3, _ | ⟨x4, _ | ⟨x5, _ | ⟨x6, _ | ⟨x7, _ | ⟨x8, _ | ⟨x9, _ | ⟨x10, _ | ⟨x11, _ | ⟨x12, _ | ⟨x13, rest⟩⟩⟩⟩⟩⟩⟩⟩⟩⟩⟩⟩⟩⟩ <;>
        first | exact absurd h.symm (Option.some_ne_none _) | (obtain rfl := Option.some.inj h; exact congrArg some (by simp))

/-- As many bytes as the code's length spell a command (R10, R11). -/
theorem isSome_commandOf {code : Byte} {rest : List Byte} (h : commandLength code = some (rest.length + 1))
    (prm : Bool) : (commandOf prm (code :: rest)).isSome = true := by
  have hcode := mem_codesOfLength h
  clear h
  generalize hn : rest.length + 1 = n at hcode
  unfold codesOfLength at hcode
  split at hcode <;> simp only [List.mem_cons, List.not_mem_nil, or_false] at hcode
  case h_1 =>
    rcases hcode with rfl | rfl | rfl <;> rcases rest with _ | ⟨x0, rest⟩ <;>
      first | rfl | exact absurd hn (by simp)
  case h_2 =>
    rcases hcode with rfl | rfl | rfl | rfl | rfl | rfl | rfl | rfl | rfl | rfl | rfl | rfl | rfl <;> rcases rest with _ | ⟨x0, _ | ⟨x1, rest⟩⟩ <;>
      first | rfl | exact absurd hn (by simp)
  case h_3 =>
    rcases hcode with rfl | rfl | rfl <;> rcases rest with _ | ⟨x0, _ | ⟨x1, _ | ⟨x2, rest⟩⟩⟩ <;>
      first | rfl | exact absurd hn (by simp)
  case h_4 =>
    rcases hcode with rfl | rfl | rfl | rfl <;> rcases rest with _ | ⟨x0, _ | ⟨x1, _ | ⟨x2, _ | ⟨x3, rest⟩⟩⟩⟩ <;>
      first | rfl | exact absurd hn (by simp)
  case h_5 =>
    subst hcode
    rcases rest with _ | ⟨x0, _ | ⟨x1, _ | ⟨x2, _ | ⟨x3, _ | ⟨x4, _ | ⟨x5, rest⟩⟩⟩⟩⟩⟩ <;>
      first | rfl | exact absurd hn (by simp)
  case h_6 =>
    subst hcode
    rcases rest with _ | ⟨x0, _ | ⟨x1, _ | ⟨x2, _ | ⟨x3, _ | ⟨x4, _ | ⟨x5, _ | ⟨x6, rest⟩⟩⟩⟩⟩⟩⟩ <;>
      first | rfl | exact absurd hn (by simp)
  case h_7 =>
    subst hcode
    rcases rest with _ | ⟨x0, _ | ⟨x1, _ | ⟨x2, _ | ⟨x3, _ | ⟨x4, _ | ⟨x5, _ | ⟨x6, _ | ⟨x7, _ | ⟨x8, _ | ⟨x9, _ | ⟨x10, _ | ⟨x11, _ | ⟨x12, _ | ⟨x13, rest⟩⟩⟩⟩⟩⟩⟩⟩⟩⟩⟩⟩⟩⟩ <;>
      first | rfl | exact absurd hn (by simp)

end Sys2Proof

open Sys2Proof

/-- Settles O7: the operands are put together again from their bytes. -/
theorem commandBytesSpellTheCommand : Obligations.CommandBytesSpellTheCommand := by
  unfold Obligations.CommandBytesSpellTheCommand
  intro c bytes prm hbytes hprm
  cases c
  case sysreset guard level =>
    obtain rfl := hprm guard level rfl
    obtain rfl := Option.some.inj hbytes
    rfl
  case incfg n config =>
    obtain rfl := Option.some.inj hbytes
    exact congrArg (fun x => some (Instr.incfg n x)) (byteAt_append_two config)
  case cntset n value =>
    obtain rfl := Option.some.inj hbytes
    exact congrArg (fun x => some (Instr.cntset n x)) (byteAt_append_four value)
  case reccfg interval kinds k slots =>
    obtain rfl := Option.some.inj hbytes
    rw [eq_eight_slots slots]
    exact congrArg (fun x => some (Instr.reccfg x kinds k _)) (byteAt_append_three interval)
  case mark cls tag =>
    obtain rfl := Option.some.inj hbytes
    exact congrArg (fun x => some (Instr.mark cls x)) (byteAt_append_two tag)
  case winset space walk start stop =>
    obtain rfl := Option.some.inj hbytes
    exact congrArg₂ (fun x y => some (Instr.winset space walk x y)) (byteAt_append_two start) (byteAt_append_two stop)
  case alertmask mask =>
    obtain rfl := Option.some.inj hbytes
    exact congrArg (fun x => some (Instr.alertmask x)) (byteAt_append_two mask)
  case alertack mask =>
    obtain rfl := Option.some.inj hbytes
    exact congrArg (fun x => some (Instr.alertack x)) (byteAt_append_two mask)
  all_goals first
    | exact absurd hbytes.symm (Option.some_ne_none _)
    | (obtain rfl := Option.some.inj hbytes; rfl)

/-- Settles O8: a spelled command has the bytes that spell it, and their number decides whether one is spelled. -/
theorem spelledCommandHasTheseBytes : Obligations.SpelledCommandHasTheseBytes := by
  unfold Obligations.SpelledCommandHasTheseBytes
  refine fun code rest prm => ⟨⟨fun h => ?_, fun h => isSome_commandOf h prm⟩, fun c => commandBytes_of_commandOf⟩
  obtain ⟨c, hc⟩ := Option.isSome_iff_exists.mp h
  exact commandLength_of_commandBytes (commandBytes_of_commandOf hc)

end

section
/-! SUPPORT. What an incoming byte is in each state of the parser, and the framing error in the terms of `FramedWith`
(sections 1.2 and 1.4). -/

namespace Sys2Proof.Machine

open Sys2Proof.Safety

/-! ## Which bytes pass -/

theorem takesBytes_iff (s : State) : takesBytes s = true ↔ WriteOpen s := by
  unfold takesBytes WriteOpen
  cases s.straps.i2c <;> simp [beq_eq_decide]

theorem givesBytes_iff (s : State) : givesBytes s = true ↔ ReadOpen s := by
  unfold givesBytes ReadOpen
  cases s.straps.i2c <;> simp [beq_eq_decide]

/-! ## An incoming byte by the parser's state -/

/-- Outside a read segment the line is that of `byteTaken` (R3, R5). -/
theorem lineAtByte_eq {s : State} (h : ∀ k e, s.link.parser ≠ .readStream k e) :
    lineAtByte s = { s with link := byteTaken s s.link.parser } := by
  unfold lineAtByte byteTaken
  cases s.straps.i2c with
  | true => rfl
  | false =>
    cases hparser : s.link.parser with
    | readStream k e => exact absurd hparser (h k e)
    | _ => simp [hparser]

/-- In SPI the incoming bytes of a read segment leave the line to the segment (R3). -/
theorem lineAtByte_of_spi_read {s : State} (hi2c : s.straps.i2c = false) {k : ReadKind} {e : Bool}
    (h : s.link.parser = .readStream k e) : lineAtByte s = s := by
  simp [lineAtByte, hi2c, h]

/-- In I2C a byte is acknowledged in every state (R5). -/
theorem lineAtByte_of_i2c {s : State} (hi2c : s.straps.i2c = true) :
    lineAtByte s = { s with link := byteTaken s s.link.parser } := by
  simp [lineAtByte, byteTaken, hi2c]

theorem setParser_byteTaken (s : State) (p : Parser) :
    setParser p { s with link := byteTaken s s.link.parser } = { s with link := byteTaken s p } := by
  unfold byteTaken setParser
  cases s.straps.i2c <;> rfl

section
variable {s : State} (hup : linkUp s = true) (hopen : WriteOpen s)
include hup hopen

theorem incomingByte_expectHeader (h : s.link.parser = .expectHeader) (b : Byte) :
    incomingByte b s = .next (takeHeader b { s with link := byteTaken s s.link.parser }) := by
  unfold incomingByte
  rw [hup, (takesBytes_iff s).mpr hopen, lineAtByte_eq (by simp [h]), h]
  rfl

theorem incomingByte_code {len : BitVec 5} {more : Bool} (h : s.link.parser = .collect len more []) (b : Byte) :
    incomingByte b s = takeCode len more b { s with link := byteTaken s s.link.parser } := by
  unfold incomingByte
  rw [hup, (takesBytes_iff s).mpr hopen, lineAtByte_eq (by simp [h]), h]
  rfl

theorem incomingByte_operand {len : BitVec 5} {more : Bool} {got : List Byte} (hgot : got ≠ [])
    (h : s.link.parser = .collect len more got) (b : Byte) :
    incomingByte b s = takeOperand len more got b { s with link := byteTaken s s.link.parser } := by
  unfold incomingByte
  rw [hup, (takesBytes_iff s).mpr hopen, lineAtByte_eq (by simp [h]), h]
  cases got with
  | nil => exact absurd rfl hgot
  | cons x got => rfl

theorem incomingByte_skip {more : Bool} {left : Nat} (h : s.link.parser = .skip more left) (b : Byte) :
    incomingByte b s = takeSkip more left { s with link := byteTaken s s.link.parser } := by
  unfold incomingByte
  rw [hup, (takesBytes_iff s).mpr hopen, lineAtByte_eq (by simp [h]), h]
  rfl

theorem incomingByte_writeStream (h : s.link.parser = .writeStream) (b : Byte) :
    incomingByte b s = windowWrite b { s with link := byteTaken s .writeStream } := by
  unfold incomingByte
  rw [hup, (takesBytes_iff s).mpr hopen, lineAtByte_eq (by simp [h]), h]
  rfl

theorem incomingByte_ignore (h : s.link.parser = .ignore) (b : Byte) :
    incomingByte b s = .next { s with link := byteTaken s .ignore } := by
  unfold incomingByte
  rw [hup, (takesBytes_iff s).mpr hopen, lineAtByte_eq (by simp [h]), h]
  rfl

theorem incomingByte_readStream_i2c (hi2c : s.straps.i2c = true) {k : ReadKind} {e : Bool}
    (h : s.link.parser = .readStream k e) (b : Byte) :
    incomingByte b s = .next (framingError { s with link := byteTaken s s.link.parser }) := by
  unfold incomingByte
  rw [hup, (takesBytes_iff s).mpr hopen, lineAtByte_of_i2c hi2c, h, hi2c]
  rfl

end

theorem incomingByte_readStream_spi {s : State} (hup : linkUp s = true) (hi2c : s.straps.i2c = false) {k : ReadKind}
    {e : Bool} (h : s.link.parser = .readStream k e) (b : Byte) : incomingByte b s = .next s := by
  unfold incomingByte
  rw [hup, (takesBytes_iff s).mpr (by simp [hi2c]), lineAtByte_of_spi_read hi2c h, h, hi2c]
  rfl

/-! ## Headers -/

/-- The bits of a header below its kind are all clear, or not (R8). -/
theorem header_low_bits (b : Byte) :
    (b.getLsbD 5 || (b.setWidth 5 : BitVec 5) != 0) = (b.extractLsb' 0 6 != 0) := by
  revert b
  decide

/-- An accepted header opens the segment of its kind (R8). -/
theorem takeHeader_of_ok {b : Byte} (h : headerOk b = true) (s : State) : takeHeader b s =
    if b.extractLsb' 6 2 = 0 then setParser (.collect (b.extractLsb' 0 5) (b.getLsbD 5) []) s
    else if b.extractLsb' 6 2 = 1 then openSegment .writeStream s
    else if b.extractLsb' 6 2 = 2 then openSegment (.readStream .window false) s
    else setParser (.readStream .status false) s := by
  have hkind : ∀ kind : BitVec 2, kind = 0 ∨ kind = 1 ∨ kind = 2 ∨ kind = 3 := by decide
  unfold headerOk at h
  unfold takeHeader
  dsimp only
  rw [header_low_bits, BitVec.setWidth_eq_extractLsb' (show 5 ≤ 8 by decide)]
  rcases hkind (b.extractLsb' 6 2) with hk | hk | hk | hk <;> rw [hk] at h ⊢ <;> simp_all

/-- Every other header is a framing error (R8, R14). -/
theorem takeHeader_of_not_ok {b : Byte} (h : headerOk b = false) (s : State) : takeHeader b s = framingError s := by
  have hkind : ∀ kind : BitVec 2, kind = 0 ∨ kind = 1 ∨ kind = 2 ∨ kind = 3 := by decide
  unfold headerOk at h
  unfold takeHeader
  dsimp only
  rw [header_low_bits, BitVec.setWidth_eq_extractLsb' (show 5 ≤ 8 by decide)]
  rcases hkind (b.extractLsb' 6 2) with hk | hk | hk | hk <;> rw [hk] at h ⊢ <;> simp_all

/-! ## Framing errors -/

/-- A framing error on a line: the result, FRAME_ERROR, LINK counter 35, IGNORE and ALERT# (R14). -/
theorem framedWith_framingError (l : Link) (s : State) :
    FramedWith { l with parser := .ignore } s (framingError { s with link := l }) := by
  obtain ⟨counters, raised, hcount⟩ := offerCount_shape 35
    (raise .frameError { s with lastResult := .framing, link := { l with parser := .ignore } })
  refine ⟨counted_offerCount_self 35
    (raise .frameError { s with lastResult := .framing, link := { l with parser := .ignore } }), rfl, ?_⟩
  show evalAlert (offerCount 35
    (raise .frameError { s with lastResult := .framing, link := { l with parser := .ignore } })) = _
  unfold framingError
  rw [hcount]
  rfl

end Sys2Proof.Machine

end

section
/-! SUPPORT. The start of a transaction, and the bytes of headers, commands and segments that are skipped, ignored or
framing errors. -/

namespace Sys2Proof.Machine

open Sys2Proof.Safety

theorem ownAddress_eq (s : State) : ownAddress s = if s.straps.adrHigh then 0x4B else 0x4A := rfl

theorem setCs_eq (low : Bool) (s : State) :
    setCs low s = { s with inPins := { s.inPins with csLow := if s.straps.i2c then s.inPins.csLow else low } } := by
  unfold setCs
  split_ifs <;> rfl

/-- The part's own start, outside STANDBY or with a transaction open, as a whole next state (R4, R9). -/
theorem transactionStarts_of_awake {s : State} (hup : linkUp s = true)
    (hawake : s.power = .run ∨ s.link.parser ≠ .idle) (read : Bool) :
    transactionStarts read s = { s with
      inPins := { s.inPins with csLow := if s.straps.i2c then s.inPins.csLow else true }
      link := { s.link with
        parser := if s.link.parser = .idle then .expectHeader else s.link.parser
        transfer := if s.straps.i2c then (if read then .read else .write) else .none
        out := if s.straps.i2c then none else some 0
        ack := s.straps.i2c } } := by
  have hnowake : (s.link.parser == .idle && s.power == .standby) = false := by
    rcases hawake with h | h <;> simp [h, beq_eq_decide]
  unfold transactionStarts
  rw [if_pos hup, hnowake]
  dsimp only [Bool.false_eq_true, if_false]
  rw [if_neg Bool.false_ne_true, setCs_eq]
  by_cases hidle : s.link.parser = .idle
  · simp [hidle, setParser, lineAtStart, transferOf]
  · simp [hidle, lineAtStart, transferOf]

/-- A host's start in STANDBY with no transaction open is first the wake (R43, R166). -/
theorem execWake_host {s : State} (hup : linkUp s = true) (hstandby : s.power = .standby)
    (hidle : s.link.parser = .idle) : execWake true 0 s = .next (wakeUp true 0 s) := by
  unfold execWake
  dsimp only
  have hev : s.inPins.ev ^^^ 0 = s.inPins.ev := BitVec.xor_zero
  rw [if_pos (by simp [hup, hstandby]), if_pos (by simp [hidle]), hev]

@[simp] theorem wakeUp_keeps (host : Bool) (input : BitVec 4) (s : State) :
    (wakeUp host input s).link = s.link ∧ (wakeUp host input s).straps = s.straps ∧
    (wakeUp host input s).life = s.life ∧ (wakeUp host input s).power = .run ∧
    (wakeUp host input s).inPins = s.inPins := by
  unfold wakeUp
  dsimp only
  split_ifs <;> simp

theorem linkUp_congr {s t : State} (h : t.life = s.life) : linkUp t = linkUp s := by
  unfold linkUp
  rw [h]

theorem openSegment_byteTaken (s : State) (p : Parser) :
    Machine.openSegment p { s with link := byteTaken s s.link.parser } = { s with
      link := byteTaken s p, window := { s.window with closed := false, unclocked := false } } := by
  unfold Machine.openSegment byteTaken
  cases s.straps.i2c <;> rfl

/-- With the link down a command row does nothing (R7). -/
theorem exec_command_of_link_down {c : Instr} (hc : isCommand c = true) {s : State} (hdown : linkUp s = false) :
    exec c s = .next s := by
  cases hknown : (commandBytes c).isSome with
  | false =>
    have hunknown : c = .unknownCommand := by simpa [isCommand, hknown] using hc
    rw [hunknown]
    exact congrArg _ (complete_of_not_linkUp hdown _ _)
  | true =>
    cases hreset : isReset c with
    | false => rw [exec_command hknown hreset, complete_of_not_linkUp hdown]
    | true =>
      obtain ⟨guard, prm, rfl⟩ := eq_sysreset_of_isReset hknown hreset
      rw [exec_sysreset, hdown, complete_of_not_linkUp hdown]
      rfl

end Sys2Proof.Machine

open Sys2Proof Sys2Proof.Machine Sys2Proof.Safety

/-- Settles O9: a start in STANDBY is the wake followed by the start of a part that is awake. -/
theorem transactionStartOpens : Obligations.TransactionStartOpens := by
  unfold Obligations.TransactionStartOpens
  intro a s own
  have hstart (t : State) (hstraps : t.straps = s.straps) (hown : own) :
      exec (.transactionStart a) t = .next (transactionStarts a.read t) := by
    show Host.Outcome.next _ = _
    rw [if_neg]
    simp only [Bool.and_eq_true, bne_iff_ne, ownAddress_eq, hstraps]
    exact fun h => h.2 (hown h.1)
  refine ⟨fun hup hown hawake => ?_, fun hup hown hstandby hidle => ?_, fun hi2c hother => ?_, fun hlife hown => ?_,
    fun hlife hown => ?_⟩
  · rw [hstart s rfl hown, transactionStarts_of_awake hup hawake]
  · refine ⟨wakeUp true 0 s, execWake_host hup hstandby hidle, ?_⟩
    have hwoken := wakeUp_keeps true 0 s
    have hupwoken : linkUp (wakeUp true 0 s) = true := (linkUp_congr hwoken.2.2.1).trans hup
    have hstays : ((wakeUp true 0 s).link.parser == .idle && (wakeUp true 0 s).power == .standby) = false := by
      simp [beq_eq_decide]
    rw [hstart s rfl hown, hstart _ hwoken.2.1 hown]
    unfold transactionStarts
    rw [if_pos hup, if_pos hupwoken, hstays, hwoken.1, hidle, hstandby]
    rfl
  · show Host.Outcome.next _ = _
    rw [if_pos (by simpa [hi2c, ownAddress_eq] using hother)]
    rfl
  · have hdown : linkUp s = false := by rcases hlife with h | h <;> simp [linkUp, h, beq_eq_decide]
    rw [hstart s rfl hown]
    unfold transactionStarts
    rw [if_neg (by simp [hdown]), if_neg (by rcases hlife with h | h <;> simp [h]), setCs_eq]
    cases hi2c : s.straps.i2c <;> simp [hi2c, ignoredOut]
  · rw [hstart s rfl hown]
    unfold transactionStarts
    rw [if_neg (by simp [linkUp, hlife, beq_eq_decide]), if_pos hlife]

/-- Settles O11: an accepted header opens the segment of its kind, on the line of the byte. -/
theorem headerByteOpensSegment : Obligations.HeaderByteOpensSegment := by
  unfold Obligations.HeaderByteOpensSegment
  intro b s hup hopen hparser hok kind
  show incomingByte b s = _
  rw [incomingByte_expectHeader hup hopen hparser, takeHeader_of_ok hok]
  simp only [setParser_byteTaken, openSegment_byteTaken]
  by_cases h0 : kind = 0
  · have h1 : kind ≠ 1 := by rw [h0]; decide
    have h2 : kind ≠ 2 := by rw [h0]; decide
    rw [if_pos h0, if_pos h0, if_neg (not_or.mpr ⟨h1, h2⟩)]
  · rw [if_neg h0, if_neg h0]
    by_cases h1 : kind = 1
    · rw [if_pos h1, if_pos h1, if_pos (.inl h1)]
    · rw [if_neg h1, if_neg h1]
      by_cases h2 : kind = 2
      · rw [if_pos h2, if_pos h2, if_pos (.inr h2)]
      · rw [if_neg h2, if_neg h2, if_neg (not_or.mpr ⟨h1, h2⟩)]

/-- Settles O12: the row is its byte, which the parser keeps, skips or runs. -/
theorem codeAndOperandBytes : Obligations.CodeAndOperandBytes := by
  unfold Obligations.CodeAndOperandBytes
  intro len more got b prm c s hup hopen hparser hlt n code sampled kept taken
  have hrun {bytes : List Byte} {t : State} {level : Bool} (hlevel : t.inPins.prm = level)
      (hc : commandOf level bytes = some c) : runBytes bytes t = exec c t := by
    have hknown : (commandBytes c).isSome = true := by
      cases bytes with
      | nil => exact nomatch hc
      | cons code rest => rw [commandBytes_of_commandOf hc]; rfl
    unfold runBytes
    rw [hlevel, hc]
    exact runCommand_eq_exec hknown t
  refine ⟨fun hgot hlength hn => ?_, fun hgot hlength hn hc => ?_, fun hgot hlength hn => ?_, fun hgot hlength hn => ?_,
    fun hgot hn => ?_, fun hgot hn hlength hc => ?_⟩
  · subst hgot
    show incomingByte b s = _
    rw [incomingByte_code hup hopen hparser, takeCode, hlength]
    dsimp only
    rw [if_neg (by simp), if_neg (by simp [n] at hn; omega), setParser_byteTaken]
    rfl
  · subst hgot
    show incomingByte b s = _
    rw [incomingByte_code hup hopen hparser, takeCode, hlength]
    dsimp only
    rw [if_neg (by simp), if_pos (by simpa [n] using hn)]
    exact hrun rfl hc
  · subst hgot
    show incomingByte b s = _
    rw [incomingByte_code hup hopen hparser, takeCode, hlength]
    dsimp only
    rw [if_neg (by simp [n] at hn; omega), setParser_byteTaken]
  · subst hgot
    show incomingByte b s = _
    rw [incomingByte_code hup hopen hparser, takeCode, hlength]
    dsimp only
    rw [if_pos (by simp [n] at hn; omega)]
    rfl
  · show incomingByte b sampled = _
    rw [incomingByte_operand (s := sampled) hup hopen hgot hparser, takeOperand, if_neg (by omega),
      setParser_byteTaken]
    rfl
  · show incomingByte b sampled = _
    rw [incomingByte_operand (s := sampled) hup hopen hgot hparser, takeOperand, if_pos (by omega)]
    exact hrun rfl hc

/-- Settles O13: where the link takes no byte nothing happens, and SKIP and IGNORE take theirs. -/
theorem skippedAndIgnoredBytes : Obligations.SkippedAndIgnoredBytes := by
  unfold Obligations.SkippedAndIgnoredBytes
  intro more left b prm m s nothingIn
  have hnothing (h : ∀ t : State, t.link = s.link → t.life = s.life → t.straps = s.straps →
      incomingByte b t = .next t) : nothingIn := by
    refine ⟨fun c hc => ?_, h { s with inPins := { s.inPins with prm := prm } } rfl rfl rfl⟩
    simp only [List.mem_cons, List.not_mem_nil, or_false] at hc
    rcases hc with rfl | rfl | rfl | rfl | rfl | rfl <;> exact h s rfl rfl rfl
  refine ⟨linkUp_iff s, fun hup hopen hparser hleft => ?_, fun hup hopen hparser hleft => ?_,
    fun hup hopen hparser => incomingByte_ignore hup hopen hparser b, fun hup hclosed => ?_,
    fun hup hi2c ⟨k, e, hparser⟩ => ?_, fun hlife => ?_⟩
  · show incomingByte b s = _
    rw [incomingByte_skip hup hopen hparser, takeSkip, if_neg (by omega), setParser_byteTaken]
  · show incomingByte b s = _
    rw [incomingByte_skip hup hopen hparser, takeSkip, if_pos (by omega)]
    rfl
  · refine hnothing fun t hlink hlife hstraps => incomingByte_of_not (.inr ?_) b
    rw [← Bool.not_eq_true, takesBytes_iff]
    unfold WriteOpen
    rwa [hlink, hstraps]
  · exact hnothing fun t hlink hlife hstraps =>
      incomingByte_readStream_spi ((linkUp_congr hlife).trans hup) (hstraps ▸ hi2c) (hlink ▸ hparser) b
  · have hdown : linkUp s = false := by
      rcases hlife with h | h | h <;> simp [linkUp, h, beq_eq_decide]
    refine ⟨hnothing fun t _ hlife _ => incomingByte_of_not (.inl ((linkUp_congr hlife).trans hdown)) b, ?_,
      fun c hc => exec_command_of_link_down hc hdown⟩
    intro c hc
    simp only [List.mem_cons, List.not_mem_nil, or_false] at hc
    rcases hc with rfl | rfl | rfl | rfl <;> exact outgoingByte_of_not (.inl hdown) m

end

section
/-! SUPPORT. What an outgoing byte is in each state of the parser, and the echo byte and the status block bit by bit. -/

namespace Sys2Proof.Machine

open Sys2Proof.Safety

/-! ## An outgoing byte by the parser's state -/

section
variable {s : State} (hup : linkUp s = true) (hopen : ReadOpen s)
include hup hopen

theorem outgoingByte_value : outgoingByte .value s = sendByte s := by
  unfold outgoingByte
  rw [hup, (givesBytes_iff s).mpr hopen]
  rfl

theorem outgoingByte_clock : outgoingByte .clock s = clockByte s := by
  unfold outgoingByte
  rw [hup, (givesBytes_iff s).mpr hopen]
  rfl

end

theorem sendByte_echo {s : State} {kind : ReadKind} (h : s.link.parser = .readStream kind false) :
    sendByte s = .next (sendEcho kind s) := by
  unfold sendByte
  rw [h]

theorem sendByte_status {s : State} (h : s.link.parser = .readStream .status true) :
    sendByte s = .next (sendStatus s) := by
  unfold sendByte
  rw [h]

theorem sendByte_window {s : State} (h : s.link.parser = .readStream .window true) :
    sendByte s = fixPayload s := by
  unfold sendByte
  rw [h]

theorem sendByte_ignore {s : State} (h : s.link.parser = .ignore) :
    sendByte s = .next { s with link := { s.link with out := if s.straps.i2c then none else some 0 } } := by
  unfold sendByte
  rw [h]

/-- Where a read segment would have to be open and none is, an outgoing byte is a framing error in I2C, and 00h without
an effect in SPI (R3, R14, R18). -/
theorem sendByte_stray {s : State}
    (h : s.link.parser = .expectHeader ∨ insideCommand s.link.parser = true ∨ s.link.parser = .writeStream) :
    sendByte s = .next (if s.straps.i2c then framingError { s with link := { s.link with out := none } }
      else { s with link := { s.link with out := some 0 } }) := by
  unfold sendByte
  cases hparser : s.link.parser with
  | expectHeader | collect | skip | writeStream => simp
  | idle | ignore | readStream => simp [hparser, insideCommand] at h

theorem clockByte_window {s : State} (h : s.link.parser = .readStream .window true) :
    clockByte s = clockPayload s := by
  unfold clockByte
  rw [h]

theorem clockByte_of_not_window {s : State} (h : s.link.parser ≠ .readStream .window true) :
    clockByte s = .next s := by
  unfold clockByte
  split
  · next hparser => exact absurd hparser h
  · rfl

/-! ## Bytes of fields -/

theorem byteAt_ushiftRight {w : Nat} (x : BitVec w) (i : Nat) : byteAt (x >>> 8) i = byteAt x (i + 1) := by
  refine BitVec.eq_of_getLsbD_eq fun j hj => ?_
  have hsum : 8 + (8 * i + j) = 8 * (i + 1) + j := by omega
  simp only [getLsbD_byteAt, BitVec.getLsbD_ushiftRight, hsum]

theorem setWidth_eq_byteAt {w : Nat} (x : BitVec w) : x.setWidth 8 = byteAt x 0 := by
  refine BitVec.eq_of_getLsbD_eq fun j hj => ?_
  simp only [getLsbD_byteAt, BitVec.getLsbD_setWidth, Nat.mul_zero, Nat.zero_add]

/-- The bytes of a field are its byte 0, byte 1 and so on (00_scope.md, Conventions). -/
theorem leBytes_eq_map {w : Nat} (x : BitVec w) (n : Nat) : leBytes x n = (List.range n).map (byteAt x) := by
  induction n generalizing x with
  | zero => rfl
  | succ n ih =>
    rw [leBytes, ih, List.range_succ_eq_map, List.map_cons, List.map_map, setWidth_eq_byteAt]
    congr 2
    funext i
    exact byteAt_ushiftRight x i

@[simp] theorem length_leBytes {w : Nat} (x : BitVec w) (n : Nat) : (leBytes x n).length = n := by
  simp [leBytes_eq_map]

theorem leBytes_two {w : Nat} (x : BitVec w) : leBytes x 2 = [byteAt x 0, byteAt x 1] := leBytes_eq_map x 2

/-- A byte with one named bit has that bit. -/
theorem getLsbD_bitByte (b : Bool) {i : Nat} (hi : i < 8) (j : Nat) :
    (bitByte b i).getLsbD j = (b && decide (j = i)) := by
  unfold bitByte
  cases b with
  | false => simp
  | true =>
    simp only [if_true, Bool.true_and, BitVec.getLsbD_shiftLeft]
    rw [Bool.eq_iff_iff]
    simp
    omega

theorem Result.code_eq (r : Result) : r.code = BitVec.ofNat 4 (resultNumber r) := by cases r <;> rfl

/-- The echo byte bit by bit (R39). -/
theorem getLsbD_echoByte (s : State) (j : Nat) : (echoByte s).getLsbD j =
    (decide (j < 8) && s.lastResult.code.getLsbD j || (alertWanted s && decide (j = 4))
      || (s.life == .committed && decide (j = 5)) || (s.locked && decide (j = 6))
      || (s.hold.active && decide (j = 7))) := by
  simp only [echoByte, BitVec.getLsbD_or, BitVec.getLsbD_setWidth, getLsbD_bitByte, Nat.reduceLT]

end Sys2Proof.Machine

open Sys2Proof Sys2Proof.Machine Sys2Proof.Safety

/-- Settles O14: the framing error of each state that has one, on the line that the byte leaves. -/
theorem framingErrors : Obligations.FramingErrors := by
  unfold Obligations.FramingErrors
  intro len more b s hup outgoing
  have hframed (l : Link) : FramedWith { l with parser := .ignore } s (framingError { s with link := l }) :=
    framedWith_framingError l s
  have hline : byteTaken s .ignore = { byteTaken s s.link.parser with parser := .ignore } := by
    unfold byteTaken
    split_ifs <;> rfl
  have hsent (hopen : ReadOpen s) : ∀ c ∈ outgoing, exec c s = sendByte s := by
    intro c hc
    simp only [outgoing, List.mem_cons, List.not_mem_nil, or_false] at hc
    rcases hc with rfl | rfl | rfl | rfl <;> exact outgoingByte_value hup hopen
  refine ⟨fun hopen hparser hbad => ?_, fun hopen hparser hknown hlength => ?_, fun hi2c hread hparser => ?_,
    fun hi2c hwrite ⟨k, e, hparser⟩ => ?_, fun hi2c hread hparser c hc => ?_, fun hspi hidle hnoread c hc => ?_⟩
  · refine ⟨_, (incomingByte_expectHeader hup hopen hparser b).trans ?_, hline ▸ hframed _⟩
    rw [takeHeader_of_not_ok hbad]
  · refine ⟨_, (incomingByte_code hup hopen hparser b).trans ?_, hline ▸ hframed _⟩
    obtain ⟨n, hn⟩ := Option.isSome_iff_exists.mp hknown
    rw [takeCode, hn]
    exact if_pos fun h => hlength (hn.trans (congrArg some h))
  · refine ⟨_, (outgoingByte_value hup fun _ => hread).trans ?_, hframed { s.link with out := none }⟩
    rw [sendByte_stray hparser, hi2c]
    rfl
  · refine ⟨_, incomingByte_readStream_i2c hup (fun _ => hwrite) hi2c hparser b, hline ▸ hframed _⟩
  · rw [hsent (fun _ => hread) c hc, sendByte_ignore hparser, hi2c]
    rfl
  · rw [hsent (by simp [ReadOpen, hspi]) c hc]
    by_cases hignore : s.link.parser = .ignore
    · rw [sendByte_ignore hignore, hspi]
      rfl
    · rw [sendByte_stray, hspi]
      · rfl
      · cases hparser : s.link.parser with
        | readStream k e => exact absurd hparser (hnoread k e)
        | idle => exact absurd hparser hidle
        | ignore => exact absurd hparser hignore
        | expectHeader | collect | skip | writeStream => simp [insideCommand]

/-- Settles O15: the echo byte bit by bit, the latch byte by byte, and the moments that have no effect. -/
theorem echoAndStatusBytes : Obligations.EchoAndStatusBytes := by
  unfold Obligations.EchoAndStatusBytes
  intro kind m s hup outgoing
  have hmoment (m : ReadMoment) : ∀ c ∈ outgoing m, exec c s = outgoingByte m s := by
    intro c hc
    simp only [outgoing, List.mem_cons, List.not_mem_nil, or_false] at hc
    rcases hc with rfl | rfl | rfl | rfl <;> rfl
  refine ⟨fun hopen hparser => ?_, fun hopen hparser hlatch hpos => ?_, fun hopen hparser hlatch hpos => ?_,
    fun hi2c hread c hc => ?_, fun hclosed c hc => ?_, fun hspi c hc => ?_, fun hparser c hc => ?_⟩
  · refine ⟨sendEcho kind s, echoByte s, ?_, ?_, ?_, ?_, ?_, ?_, ?_⟩
    · exact (outgoingByte_value hup hopen).trans (sendByte_echo hparser)
    · refine BitVec.eq_of_getLsbD_eq fun i hi => ?_
      rw [← Result.code_eq, BitVec.getLsbD_extractLsb', getLsbD_echoByte]
      simp [hi, show i < 8 by omega, show i ≠ 4 by omega, show i ≠ 5 by omega, show i ≠ 6 by omega,
        show i ≠ 7 by omega]
    · simp [getLsbD_echoByte, alertWanted, -BitVec.getLsbD_eq_getElem]
    · simp [getLsbD_echoByte, beq_eq_decide, -BitVec.getLsbD_eq_getElem]
    · simp [getLsbD_echoByte, -BitVec.getLsbD_eq_getElem]
    · simp [getLsbD_echoByte, -BitVec.getLsbD_eq_getElem]
    · cases kind <;> rfl
  · show outgoingByte .value s = _
    rw [outgoingByte_value hup hopen, sendByte_status hparser, sendStatus,
      if_pos (show s.link.latchPos < Config.statusBytes from hpos)]
  · show outgoingByte .value s = _
    rw [outgoingByte_value hup hopen, sendByte_status hparser, sendStatus,
      if_neg (show ¬s.link.latchPos < Config.statusBytes from Nat.not_lt.mpr hpos)]
    rfl
  · rw [hmoment .nack c hc, outgoingByte_nack hup hi2c hread]
  · rw [hmoment m c hc, outgoingByte_of_not (.inr ?_)]
    rwa [← Bool.not_eq_true, givesBytes_iff]
  · rw [hmoment .nack c hc]
    simp [outgoingByte, hup, givesBytes, hspi, notAcknowledged]
  · rw [hmoment .clock c hc]
    by_cases hopen : ReadOpen s
    · rw [outgoingByte_clock hup hopen, clockByte_of_not_window hparser]
    · exact outgoingByte_of_not (.inr (by rwa [← Bool.not_eq_true, givesBytes_iff])) .clock

end

section
/-! SUPPORT. The status block byte by byte (R41). -/

namespace Sys2Proof.Machine

open Sys2Proof.Safety

/-! ## Codes and numbers -/

theorem Result.code_setWidth (r : Result) : r.code.setWidth 8 = BitVec.ofNat 8 (resultNumber r) := by cases r <;> rfl

theorem UnitState.code_eq (u : UnitState) : u.code = BitVec.ofNat 2 (unitNumber u) := by cases u <;> rfl

theorem FaultKind.code_eq (k : FaultKind) : k.code = BitVec.ofNat 8 (faultNumber k) := by cases k <;> rfl

theorem WdState.code_eq (w : WdState) : w.code = BitVec.ofNat 2 (watchNumber w) := by cases w <;> rfl

theorem WdPhase.code_eq (p : WdPhase) : p.code = BitVec.ofNat 2 (phaseNumber p) := by cases p <;> rfl

theorem ResetCause.code_eq (c : ResetCause) : c.code = BitVec.ofNat 8 (resetNumber c) := by cases c <;> rfl

/-! ## Fields side by side -/

/-- A field of `n` bits at a position, under others that end below it or start above it: bit by bit. -/
theorem extractLsb'_eq_of_getLsbD {w n : Nat} {x : BitVec w} {p : Nat} {y : BitVec n}
    (h : ∀ i < n, x.getLsbD (p + i) = y.getLsbD i) : x.extractLsb' p n = y := by
  refine BitVec.eq_of_getLsbD_eq fun i hi => ?_
  rw [BitVec.getLsbD_extractLsb', decide_eq_true hi, Bool.true_and, h i hi]

/-- Status byte 0: the life cycle, the lock, the hold and the commands remaining. -/
def statusHead (s : State) : Byte :=
  s.life.code.setWidth 8 ||| bitByte s.locked 2 ||| bitByte s.hold.active 3
    ||| ((BitVec.ofNat 3 s.hold.remaining).setWidth 8 <<< 4)

/-- Status byte 8: the cursor's entry, placed and blocked. -/
def statusCursor (c : Cursor) : Byte := c.entry.setWidth 8 ||| bitByte c.placed 6 ||| bitByte c.blocked 7

/-- Status byte 14: the supervisor's state and phase. -/
def statusWatch (w : Supervisor) : Byte := w.state.code.setWidth 8 ||| (w.phase.code.setWidth 8 <<< 2)

/-- The twenty status bytes, one by one. -/
theorem statusBlock_eq (s : State) : statusBlock s =
    [statusHead s, s.lastResult.code.setWidth 8, byteAt s.alerts.raised 0, byteAt s.alerts.raised 1,
      byteAt s.alerts.mask 0, byteAt s.alerts.mask 1, byteAt (unitField s.units) 0, byteAt (unitField s.units) 1,
      statusCursor s.recorder.cursor, s.recorder.cursor.leaf, BitVec.ofNat 8 (s.recorder.cursor.offset / 4),
      BitVec.ofNat 8 s.recorder.queue.length, s.alerts.faultKind.code, s.alerts.faultEntry.setWidth 8,
      statusWatch s.supervisor, s.supervisor.tally, s.resetCause.code, s.resetCount,
      byteAt s.recorder.leafSeq 0, byteAt s.recorder.leafSeq 1] := by
  unfold statusBlock
  simp only [leBytes_two]
  rfl

theorem getLsbD_statusHead (s : State) (j : Nat) : (statusHead s).getLsbD j =
    (decide (j < 8) && s.life.code.getLsbD j || (s.locked && decide (j = 2)) || (s.hold.active && decide (j = 3))
      || (decide (j < 8) && !decide (j < 4) && (BitVec.ofNat 3 s.hold.remaining).getLsbD (j - 4))) := by
  have hj (h : j < 8) : j - 4 < 8 := by omega
  by_cases h8 : j < 8
  · simp [statusHead, getLsbD_bitByte, h8, hj h8, -BitVec.getLsbD_eq_getElem]
  · simp [statusHead, getLsbD_bitByte, h8, -BitVec.getLsbD_eq_getElem]

theorem getLsbD_statusCursor (c : Cursor) (j : Nat) : (statusCursor c).getLsbD j =
    (decide (j < 8) && c.entry.getLsbD j || (c.placed && decide (j = 6)) || (c.blocked && decide (j = 7))) := by
  simp only [statusCursor, BitVec.getLsbD_or, BitVec.getLsbD_setWidth, getLsbD_bitByte, Nat.reduceLT]

/-- The two bits of each unit state, in the order EDGE, DWELL, LINK, TALLY, recorder (R41). -/
theorem extractLsb'_unitField (u : Units) :
    (unitField u).extractLsb' 0 2 = u.edge.code ∧ (unitField u).extractLsb' 2 2 = u.dwell.code ∧
    (unitField u).extractLsb' 4 2 = u.link.code ∧ (unitField u).extractLsb' 6 2 = u.tally.code ∧
    (unitField u).extractLsb' 8 2 = u.recorder.code ∧ (unitField u).extractLsb' 10 6 = 0 := by
  refine ⟨?_, ?_, ?_, ?_, ?_, ?_⟩ <;> refine extractLsb'_eq_of_getLsbD fun i hi => ?_ <;> interval_cases i <;>
    simp [unitField, -BitVec.getLsbD_eq_getElem]

end Sys2Proof.Machine

open Sys2Proof Sys2Proof.Machine Sys2Proof.Safety

/-- Settles O16: the block is the list of its twenty bytes, and each field is read off its own bits. -/
theorem statusBlockLayout : Obligations.StatusBlockLayout := by
  unfold Obligations.StatusBlockLayout
  intro s hhold hqueue hcursor b
  have hhead : b 0 = statusHead s := by simp only [b, statusBlock_eq]; rfl
  have hcur : b 8 = statusCursor s.recorder.cursor := by simp only [b, statusBlock_eq]; rfl
  have hwatch : b 14 = statusWatch s.supervisor := by simp only [b, statusBlock_eq]; rfl
  have hhigh : b 7 = byteAt (unitField s.units) 1 := by simp only [b, statusBlock_eq]; rfl
  have hunits : (b 7 ++ b 6 : Half) = unitField s.units := by
    simp only [b, statusBlock_eq]
    exact byteAt_append_two _
  have hremaining : s.hold.remaining < 8 := by
    rcases Bool.eq_false_or_eq_true s.hold.active with h | h
    · exact (hhold.1 h).2.trans_lt (by omega)
    · rw [(hhold.2 h).1]; omega
  obtain ⟨-, -, -, -, hoffset, hstep⟩ := hcursor
  have harea : s.recorder.cursor.offset ≤ 240 := hoffset
  have hdepth : s.recorder.queue.length ≤ 8 := hqueue.1
  obtain ⟨hedge, hdwell, hlink, htally, hrecorder, hrest⟩ := extractLsb'_unitField s.units
  rw [hunits, hedge, hdwell, hlink, htally, hrecorder, hhead, hcur, hwatch]
  simp only [← UnitState.code_eq, ← WdState.code_eq, ← WdPhase.code_eq, true_and]
  refine ⟨by rw [statusBlock_eq]; rfl, fun h => ?_, fun h => ?_, ?_, ?_, ?_, ?_, ?_, ?_, ?_, ?_, ?_, ?_, ?_, ?_, ?_, ?_,
    ?_, ?_, ?_, ?_, ?_, ?_, ?_, ?_, ?_⟩
  · exact extractLsb'_eq_of_getLsbD fun i hi => by
      rw [getLsbD_statusHead, h]; interval_cases i <;> simp [Life.code, -BitVec.getLsbD_eq_getElem]
  · exact extractLsb'_eq_of_getLsbD fun i hi => by
      rw [getLsbD_statusHead, h]; interval_cases i <;> simp [Life.code, -BitVec.getLsbD_eq_getElem]
  · simp [getLsbD_statusHead, -BitVec.getLsbD_eq_getElem]
  · simp [getLsbD_statusHead, -BitVec.getLsbD_eq_getElem]
  · have hfield : (statusHead s).extractLsb' 4 3 = BitVec.ofNat 3 s.hold.remaining :=
      extractLsb'_eq_of_getLsbD fun i hi => by
        rw [getLsbD_statusHead]; interval_cases i <;> simp [-BitVec.getLsbD_eq_getElem]
    rw [hfield, BitVec.toNat_ofNat, Nat.mod_eq_of_lt hremaining]
  · simp [getLsbD_statusHead, -BitVec.getLsbD_eq_getElem]
  · simp only [b, statusBlock_eq]
    exact s.lastResult.code_setWidth
  · simp only [b, statusBlock_eq]
    exact byteAt_append_two _
  · simp only [b, statusBlock_eq]
    exact byteAt_append_two _
  · rw [hhigh]
    refine extractLsb'_eq_of_getLsbD fun i hi => ?_
    have hbit := congrArg (BitVec.getLsbD · i) hrest
    simp only [BitVec.getLsbD_extractLsb', hi, decide_true, Bool.true_and] at hbit
    rw [getLsbD_byteAt, show 8 * 1 + (2 + i) = 10 + i by omega, hbit]
    simp
  · exact extractLsb'_eq_of_getLsbD fun i hi => by
      rw [getLsbD_statusCursor]; interval_cases i <;> simp [-BitVec.getLsbD_eq_getElem]
  · simp [getLsbD_statusCursor, -BitVec.getLsbD_eq_getElem]
  · simp [getLsbD_statusCursor, -BitVec.getLsbD_eq_getElem]
  · simp only [b, statusBlock_eq]
    rfl
  · have hb : b 10 = BitVec.ofNat 8 (s.recorder.cursor.offset / 4) := by simp only [b, statusBlock_eq]; rfl
    rw [hb, BitVec.toNat_ofNat]
    omega
  · have hb : b 11 = BitVec.ofNat 8 s.recorder.queue.length := by simp only [b, statusBlock_eq]; rfl
    rw [hb, BitVec.toNat_ofNat]
    omega
  · simp only [b, statusBlock_eq]
    exact s.alerts.faultKind.code_eq
  · simp only [b, statusBlock_eq]
    rfl
  · cases hstate : s.supervisor.state <;> cases hphase : s.supervisor.phase <;>
      simp only [statusWatch, hstate, hphase] <;> rfl
  · cases hstate : s.supervisor.state <;> cases hphase : s.supervisor.phase <;>
      simp only [statusWatch, hstate, hphase] <;> rfl
  · cases hstate : s.supervisor.state <;> cases hphase : s.supervisor.phase <;>
      simp only [statusWatch, hstate, hphase] <;> rfl
  · simp only [b, statusBlock_eq]
    rfl
  · simp only [b, statusBlock_eq]
    exact s.resetCause.code_eq
  · simp only [b, statusBlock_eq]
    rfl
  · simp only [b, statusBlock_eq]
    exact byteAt_append_two _

end

section
/-! SUPPORT. The window unit (chapter 8): its moves inside the range that WINSET accepted, a transfer in the terms of
`Transfers`, and with them that no step stops. -/

namespace Sys2Proof.Machine

open Sys2Proof.Safety

/-! ## The pointer's walk -/

/-- Leaf and offset of an address of capture memory. -/
theorem leaf_and_offset (a : Half) :
    (a.extractLsb' 0 8).toNat = a.toNat % 256 ∧ (a.extractLsb' 8 8).toNat = a.toNat / 256 := by
  constructor
  · rw [BitVec.extractLsb'_toNat]
    simp
  · rw [BitVec.extractLsb'_toNat, Nat.shiftRight_eq_div_pow]
    omega

/-- Inside the range of the window, a walk ends at its last byte alone (R133, R134). -/
theorem moved_eq_afterTransfer {s : State} (h : WindowOk s) : s.window.moved = afterTransfer s.window := by
  obtain ⟨hwalk, hseals, -⟩ := h
  unfold Window.moved afterTransfer
  cases hkind : s.window.walk with
  | wrap =>
    obtain ⟨-, -, hle⟩ := hwalk (by simp [hkind])
    have hlast : s.window.ptr.toNat < s.window.stop.toNat ↔ s.window.ptr ≠ s.window.stop := by
      rw [Ne, ← BitVec.toNat_inj]; omega
    simp [hlast]
  | oneshot =>
    obtain ⟨-, -, hle⟩ := hwalk (by simp [hkind])
    have hlast : s.window.ptr.toNat < s.window.stop.toNat ↔ s.window.ptr ≠ s.window.stop := by
      rw [Ne, ← BitVec.toNat_inj]; omega
    simp [hlast]
  | seals =>
    obtain ⟨-, hstop, -, hle, -⟩ := hseals hkind
    obtain ⟨hoffset, hleaf⟩ := leaf_and_offset s.window.ptr
    have hbound := s.window.ptr.isLt
    have hinside : (s.window.ptr.extractLsb' 0 8 != 255) = true ↔ s.window.ptr.toNat % 256 < 255 := by
      rw [bne_iff_ne, Ne, ← BitVec.toNat_inj, hoffset, show (255 : Byte).toNat = 255 from rfl]; omega
    have hlast : (s.window.ptr.extractLsb' 8 8 != s.window.stop.setWidth 8) = true ↔
        s.window.ptr.toNat / 256 < s.window.stop.toNat := by
      rw [bne_iff_ne, Ne, ← BitVec.toNat_inj, hleaf, BitVec.toNat_setWidth]; omega
    have hnext (h : ¬s.window.ptr.toNat % 256 < 255) :
        s.window.ptr + 241 = BitVec.ofNat 16 (256 * (s.window.ptr.toNat / 256 + 1) + 240) := by
      rw [← BitVec.toNat_inj, BitVec.toNat_add, BitVec.toNat_ofNat, show (241 : Half).toNat = 241 from rfl]
      omega
    simp only [hinside, hlast]
    split_ifs with h1 h2
    · rfl
    · rw [hnext h1]
    · rw [walkStart_seals]

theorem Space.size_le (sp : Space) : sp.size ≤ 65536 := by cases sp <;> decide

/-- The pointer of a window in its range is an address of the space (R132 to R134). -/
theorem inSpace_of_windowOk {s : State} (h : WindowOk s) : s.window.inSpace = true := by
  obtain ⟨hwalk, hseals, -⟩ := h
  refine decide_eq_true ?_
  by_cases hkind : s.window.walk = .seals
  · obtain ⟨hspace, -⟩ := hseals hkind
    rw [hspace]
    exact s.window.ptr.isLt
  · obtain ⟨hstop, -, hle⟩ := hwalk hkind
    omega

theorem spent_iff (w : Window) : w.spent = true ↔ w.walk = .oneshot ∧ w.exhausted = true := by
  simp [Window.spent, beq_eq_decide]

theorem readsNothing_iff (s : State) : readsNothing s = true ↔
    s.window.closed = true ∨ s.locked = true ∨ (s.window.walk = .oneshot ∧ s.window.exhausted = true) := by
  simp [readsNothing, spent_iff, or_assoc]

/-! ## Reading -/

/-- A payload byte of an open segment is a transfer: one count offered to LINK counter 36, and the pointer moves (R80,
R136). -/
theorem windowDelivers_of_transfer {s : State} (h : readsNothing s = false) :
    windowDelivers s = evalAlert (offerCount 36 { s with window := s.window.moved }) := by
  simp only [readsNothing, Bool.or_eq_false_iff] at h
  simp [windowDelivers, h]

theorem windowDelivers_of_nothing {s : State}
    (h : s.window.closed = true ∨ (s.locked = false ∧ s.window.spent = true)) : windowDelivers s = s := by
  unfold windowDelivers
  rcases h with h | h <;> simp [h]

theorem windowDelivers_of_locked {s : State} (hopen : s.window.closed = false) (hlocked : s.locked = true) :
    windowDelivers s = { s with lastResult := .locked, window := { s.window with closed := true } } := by
  unfold windowDelivers
  rw [hopen, hlocked]
  rfl

theorem windowValue_of_transfer {s : State} (h : readsNothing s = false) :
    windowValue s = (spaceMemory s.window.space s).read s.window.ptr.toNat := by
  unfold windowValue
  rw [h]
  rfl

theorem windowValue_of_nothing {s : State} (h : readsNothing s = true) : windowValue s = 0 := by
  unfold windowValue
  rw [h]
  rfl

/-- A payload byte's value is fixed at its byte event, and nothing stops it (R3, R136). -/
theorem fixPayload_eq {s : State} (h : WindowOk s) : fixPayload s = .next (
    if s.straps.i2c then windowDelivers (fixValue s)
    else { fixValue s with window := { s.window with unclocked := true } }) := by
  unfold fixPayload
  rw [if_neg (by simp [inSpace_of_windowOk h])]
  split_ifs <;> rfl

/-- What the first clock edge of a payload byte adds, in SPI alone (R3). -/
theorem clockPayload_eq {s : State} (h : WindowOk s) : clockPayload s = .next (
    if s.straps.i2c || !s.window.unclocked then s
    else windowDelivers { s with window := { s.window with unclocked := false } }) := by
  unfold clockPayload
  rw [inSpace_of_windowOk h]
  split_ifs <;> simp_all

/-- A counted transfer: the counters, the pending set and ALERT# follow the count, and the link and the window are as
they are left (R80, R136, R137). -/
theorem transfers_offerCount (c : Fin 45) (l : Link) (w : Window) (capture directory : Memory) (s : State) :
    Transfers c l w s (evalAlert (offerCount c
      { s with link := l, window := w, capture := capture, directory := directory })) := by
  refine ⟨?_, ?_, ?_⟩
  · exact counted_offerCount_self c { s with link := l, window := w, capture := capture, directory := directory }
  · rfl
  · obtain ⟨counters, raised, hcount⟩ :=
      offerCount_shape c { s with link := l, window := w, capture := capture, directory := directory }
    rw [hcount]
    rfl

/-! ## Writing -/

theorem writeRefused_iff (s : State) : writeRefused s = true ↔ s.window.space = .freeze ∨
    s.units.recorder = .ready ∨ s.units.recorder = .running ∨
    (s.window.walk = .oneshot ∧ s.window.exhausted = true) := by
  have henabled : s.units.recorder.enabled = true ↔ s.units.recorder = .ready ∨ s.units.recorder = .running := by
    cases s.units.recorder <;> simp [UnitState.enabled]
  simp only [writeRefused, Bool.or_eq_true, henabled, spent_iff, beq_eq_decide, decide_eq_true_iff, or_assoc]

theorem windowWrite_of_closed {s : State} (h : s.window.closed = true) (b : Byte) : windowWrite b s = .next s := by
  unfold windowWrite
  exact if_pos h

theorem windowWrite_of_locked {s : State} (hopen : s.window.closed = false) (h : s.locked = true) (b : Byte) :
    windowWrite b s = .next { s with lastResult := .locked, window := { s.window with closed := true } } := by
  unfold windowWrite
  rw [hopen, h]
  rfl

theorem windowWrite_of_refused {s : State} (hopen : s.window.closed = false) (hlock : s.locked = false)
    (h : writeRefused s = true) (b : Byte) :
    windowWrite b s = .next { s with lastResult := .denied, window := { s.window with closed := true } } := by
  unfold windowWrite
  rw [hopen, hlock, h]
  rfl

/-- The next state of a byte that R137 stores. -/
def storesByte (b : Byte) (s : State) : State :=
  let t := storeByte s.window.space s.window.ptr.toNat b s
  evalAlert (offerCount 37 { t with window := t.window.moved })

theorem windowWrite_of_stored {s : State} (hopen : s.window.closed = false) (hlock : s.locked = false)
    (h : writeRefused s = false) (hspace : s.window.inSpace = true) (b : Byte) :
    windowWrite b s = .next (storesByte b s) := by
  unfold windowWrite
  rw [hopen, hlock, h, hspace]
  rfl

/-- Stored, every other byte reads as before (R137). -/
theorem read_write {m : Memory} {size : Nat} (hm : m.wf size) (a x : Nat) (b : Byte) :
    (m.write a b).read x = if x = a then b else m.read x := by
  split_ifs with h
  · rw [h, Memory.read_write_same hm.1]
  · exact Memory.read_write_of_ne hm.1 h b

/-! ## No step stops -/

theorem windowWrite_next {s : State} (h : WindowOk s) (b : Byte) : ∃ t, windowWrite b s = .next t := by
  unfold windowWrite
  rw [inSpace_of_windowOk h]
  split_ifs <;> simp_all

/-- A command of the host has a next state in every state. -/
theorem runCommand_next (c : Instr) (s : State) : ∃ t, runCommand c s = .next t := by
  cases c <;> exact ⟨_, rfl⟩

theorem runBytes_next (bytes : List Byte) (s : State) : ∃ t, runBytes bytes s = .next t := by
  unfold runBytes
  split
  · exact runCommand_next _ s
  · exact ⟨_, rfl⟩

theorem takeCode_next (len : BitVec 5) (more : Bool) (b : Byte) (s : State) :
    ∃ t, takeCode len more b s = .next t := by
  unfold takeCode
  split <;> split_ifs
  · exact ⟨_, rfl⟩
  · exact ⟨_, rfl⟩
  · exact ⟨_, rfl⟩
  · exact runBytes_next [b] s
  · exact ⟨_, rfl⟩

/-- Every incoming byte has a next state. -/
theorem incomingByte_next {s : State} (h : WindowOk s) (b : Byte) : ∃ t, incomingByte b s = .next t := by
  have hline : WindowOk (lineAtByte s) := by
    unfold WindowOk
    simpa only [lineAtByte_keeps] using h
  unfold incomingByte
  split
  · exact ⟨_, rfl⟩
  · dsimp only
    split
    · exact ⟨_, rfl⟩
    · exact ⟨_, rfl⟩
    · next len more got _ =>
      split
      · exact takeCode_next len more b _
      · unfold takeOperand
        split
        · exact runBytes_next _ _
        · exact ⟨_, rfl⟩
    · unfold takeSkip
      split <;> exact ⟨_, rfl⟩
    · exact windowWrite_next hline b
    · exact ⟨_, rfl⟩
    · exact ⟨_, rfl⟩

/-- Every moment of an outgoing byte has a next state. -/
theorem outgoingByte_next {s : State} (h : WindowOk s) (m : ReadMoment) : ∃ t, outgoingByte m s = .next t := by
  unfold outgoingByte
  split
  · exact ⟨_, rfl⟩
  · cases m with
    | value =>
      dsimp only
      unfold sendByte
      split
      · exact ⟨_, rfl⟩
      · exact ⟨_, rfl⟩
      · exact ⟨_, fixPayload_eq h⟩
      · exact ⟨_, rfl⟩
      · exact ⟨_, rfl⟩
      · exact ⟨_, rfl⟩
    | clock =>
      dsimp only
      unfold clockByte
      split
      · exact ⟨_, clockPayload_eq h⟩
      · exact ⟨_, rfl⟩
    | nack => exact ⟨_, rfl⟩

/-- Every command has a next state from a window in its range. -/
theorem exec_next {s : State} (h : WindowOk s) (c : Instr) : ∃ t, exec c s = .next t := by
  cases c
  case headerByte b | codeByte b | skipByte b | ignoredByte b | strayWrite b | windowWriteByte b =>
    exact incomingByte_next h b
  case operandByte b prm => exact incomingByte_next (s := { s with inPins := { s.inPins with prm := prm } }) h b
  case strayRead m | echoByte m | statusByte m | windowReadByte m => exact outgoingByte_next h m
  all_goals exact ⟨_, rfl⟩

end Sys2Proof.Machine

open Sys2Proof Sys2Proof.Machine Sys2Proof.Safety

/-- Settles O6: a fault could come of a window byte outside its space alone. -/
theorem noStepStops : Obligations.NoStepStops := by
  unfold Obligations.NoStepStops
  intro s h
  unfold step
  split
  · exact ⟨_, rfl⟩
  · next c rest _ => exact exec_next (s := s.withPending rest) h c

/-- Settles O17: the value at the byte event, and the transfer there or at the first clock edge. -/
theorem windowReadDelivers : Obligations.WindowReadDelivers := by
  unfold Obligations.WindowReadDelivers
  intro s hup hopen hparser hwindow w spent there shown
  have hvalue : exec (.windowReadByte .value) s = fixPayload s :=
    (outgoingByte_value hup hopen).trans (sendByte_window hparser)
  have hclock : exec (.windowReadByte .clock) s = clockPayload s :=
    (outgoingByte_clock hup hopen).trans (clockByte_window hparser)
  rw [fixPayload_eq hwindow] at hvalue
  rw [clockPayload_eq hwindow] at hclock
  have hreads (hclosed : w.closed = false) (hlocked : s.locked = false) (hspent : ¬spent) : readsNothing s = false := by
    rw [← Bool.not_eq_true, readsNothing_iff]
    simp only [not_or]
    exact ⟨by simpa using hclosed, by simpa using hlocked, hspent⟩
  have hempty (h : w.closed = true ∨ s.locked = true ∨ spent) : readsNothing s = true := (readsNothing_iff s).mpr h
  refine ⟨fun hi2c hclosed hlocked hspent => ?_, fun hi2c hnothing => ?_, fun hi2c hclosed hlocked => ?_,
    fun hspi => ?_, fun hspi hfixed hclosed hlocked hspent => ?_, fun hspi hfixed hnothing => ?_,
    fun hspi hfixed hclosed hlocked => ?_, fun hidle => ?_⟩
  · have hsome := hreads hclosed hlocked hspent
    rw [if_pos hi2c, windowDelivers_of_transfer (s := fixValue s) hsome] at hvalue
    refine ⟨_, hvalue, ?_, by simp, by simp⟩
    have h := transfers_offerCount 36 (shown (windowValue s)) s.window.moved s.capture s.directory s
    rw [moved_eq_afterTransfer hwindow, windowValue_of_transfer hsome] at h
    show Transfers 36 (shown there) (afterTransfer w) s (evalAlert (offerCount 36
      { s with link := shown (windowValue s), window := s.window.moved }))
    rw [moved_eq_afterTransfer hwindow, windowValue_of_transfer hsome]
    exact h
  · have hnone := hempty (hnothing.imp_right fun h => .inr h.2)
    rw [if_pos hi2c, windowDelivers_of_nothing (s := fixValue s)
      (hnothing.imp_right fun h => ⟨h.1, (spent_iff _).mpr h.2⟩)] at hvalue
    rw [hvalue, fixValue, windowValue_of_nothing hnone]
  · have hnone := hempty (.inr (.inl hlocked))
    rw [if_pos hi2c, windowDelivers_of_locked (s := fixValue s) hclosed hlocked, fixValue,
      windowValue_of_nothing hnone] at hvalue
    exact hvalue
  · rw [if_neg (by simp [hspi])] at hvalue
    rw [hvalue]
    by_cases hnone : w.closed = true ∨ s.locked = true ∨ spent
    · rw [fixValue, windowValue_of_nothing (hempty hnone), if_pos hnone]
    · rw [fixValue, windowValue_of_transfer (by rw [← Bool.not_eq_true, readsNothing_iff]; exact hnone), if_neg hnone]
  · rw [hspi, show s.window.unclocked = true from hfixed] at hclock
    have hsome := hreads hclosed hlocked hspent
    rw [if_neg (by simp), windowDelivers_of_transfer (by exact hsome)] at hclock
    refine ⟨_, hclock, ?_, by simp, by simp⟩
    have hmoved : ({ s.window with unclocked := false } : Window).moved =
        { afterTransfer w with unclocked := false } := by
      rw [← moved_eq_afterTransfer hwindow]
      unfold Window.moved
      cases s.window.walk <;> dsimp only <;> split_ifs <;> rfl
    rw [hmoved]
    exact transfers_offerCount 36 s.link _ s.capture s.directory s
  · rw [hspi, show s.window.unclocked = true from hfixed, if_neg (by simp),
      windowDelivers_of_nothing (by exact hnothing.imp_right fun h => ⟨h.1, (spent_iff _).mpr h.2⟩)] at hclock
    exact hclock
  · rw [hspi, show s.window.unclocked = true from hfixed, if_neg (by simp),
      windowDelivers_of_locked (by exact hclosed) (by exact hlocked)] at hclock
    exact hclock
  · rw [if_pos (by rcases hidle with h | h <;> simp [h, w])] at hclock
    exact hclock

/-- Settles O18: the conditions of R137 in order, and the stored byte read back. -/
theorem windowWriteStoresOrRefuses : Obligations.WindowWriteStoresOrRefuses := by
  unfold Obligations.WindowWriteStoresOrRefuses
  intro b s hup hopen hparser w dropped refused
  have hbyte : exec (.windowWriteByte b) s = windowWrite b dropped := incomingByte_writeStream hup hopen hparser b
  rw [hbyte]
  refine ⟨fun hclosed => windowWrite_of_closed (s := dropped) hclosed b, fun hclosed hlocked => windowWrite_of_locked (s := dropped) hclosed hlocked b,
    fun hclosed hlocked hrefused => windowWrite_of_refused (s := dropped) hclosed hlocked ((writeRefused_iff dropped).mpr hrefused) b,
    fun hclosed hlocked hrefused hwindow hstores => ?_⟩
  have hnot : writeRefused dropped = false := by
    rw [← Bool.not_eq_true, writeRefused_iff]
    exact hrefused
  refine ⟨_, windowWrite_of_stored (s := dropped) hclosed hlocked hnot (inSpace_of_windowOk (s := dropped) hwindow) b, ?_⟩
  obtain ⟨hcapture, hdirectory, -⟩ := hstores
  rw [← moved_eq_afterTransfer hwindow]
  cases hspace : w.space with
  | freeze => exact absurd (.inl hspace) hrefused
  | capture =>
    have hstored : storesByte b dropped = evalAlert (offerCount 37 { s with
        link := byteTaken s .writeStream, window := w.moved
        capture := s.capture.write w.ptr.toNat b, directory := s.directory }) := by
      unfold storesByte
      rw [show dropped.window.space = .capture from hspace]
      rfl
    rw [hstored]
    refine ⟨transfers_offerCount 37 _ _ _ _ s, fun _ => ⟨by simp, fun a => ?_⟩, fun h => nomatch h⟩
    simpa using read_write hcapture _ a b
  | directory =>
    have hstored : storesByte b dropped = evalAlert (offerCount 37 { s with
        link := byteTaken s .writeStream, window := w.moved
        capture := s.capture, directory := s.directory.write w.ptr.toNat b }) := by
      unfold storesByte
      rw [show dropped.window.space = .directory from hspace]
      rfl
    rw [hstored]
    refine ⟨transfers_offerCount 37 _ _ _ _ s, (fun h => nomatch h), fun _ => ⟨by simp, fun a => ?_⟩⟩
    simpa using read_write hdirectory _ a b

end

section
/-! SUPPORT. Runs on an empty queue, one REFCLK period a step (R45, R168). -/

namespace Sys2Proof.Machine

open Sys2Proof.Safety

/-! ## Runs -/

/-- One step more, for every machine. -/
theorem core_run_succ (M : Host.Core) {k : Nat} {s t : M.State} (h : M.run k s = .next t) :
    M.run (k + 1) s = M.step t := by
  induction k generalizing s with
  | zero =>
    obtain rfl : s = t := Host.Outcome.next.inj h
    rw [Host.Core.run]
    cases M.step s <;> rfl
  | succ k ih =>
    rw [Host.Core.run] at h ⊢
    cases hstep : M.step s with
    | next s' => rw [hstep] at h; exact ih h
    | fault r => rw [hstep] at h; exact nomatch h
    | refused r => rw [hstep] at h; exact nomatch h

/-- One step more. -/
theorem run_succ {k : Nat} {s t : State} (h : Host.Core.run core k s = .next t) :
    Host.Core.run core (k + 1) s = step t := core_run_succ core h

/-- On an empty queue a step is one period. -/
theorem step_of_empty {s : State} (h : s.pending = []) : step s = .next (refclkPeriod s) := by
  unfold step
  rw [h]

/-- A state that a period keeps is kept by any number of them. -/
theorem run_of_still {s : State} (h : s.pending = []) (hstill : refclkPeriod s = s) (k : Nat) :
    Host.Core.run core k s = .next s := by
  induction k with
  | zero => rfl
  | succ k ih => exact (run_succ ih).trans ((step_of_empty h).trans (congrArg _ hstill))

/-! ## The divider -/

theorem refclkPeriod_of_not_init {s : State} (h : s.life ≠ .init) : refclkPeriod s =
    if !ticking s then s
    else if s.divider < s.prescaler.toNat then { s with divider := s.divider + 1 }
    else tickSteps s.inPins.prm s.inPins.ev s := by
  unfold refclkPeriod
  cases hlife : s.life with
  | init => exact absurd hlife h
  | unpowered | heldInReset | opened | committed => rfl

/-- A tick restarts the divider, wherever it stood (R45). -/
theorem tickSteps_divider (prm : Bool) (ev : Half) (s : State) (n : Nat) :
    tickSteps prm ev { s with divider := n } = tickSteps prm ev s := rfl

/-- Up to the prescaler's value the periods move the divider alone (R45). -/
theorem run_divider {s : State} (hempty : s.pending = []) (htick : ticking s = true) (hzero : s.divider = 0) {k : Nat}
    (hk : k ≤ s.prescaler.toNat) : Host.Core.run core k s = .next { s with divider := k } := by
  induction k with
  | zero => exact congrArg Host.Outcome.next (show s = { s with divider := 0 } by rw [← hzero])
  | succ k ih =>
    have hlife : s.life ≠ .init := fun h => by simp [ticking, linkUp, h, beq_eq_decide] at htick
    rw [run_succ (ih (by omega)), step_of_empty (by exact hempty),
      refclkPeriod_of_not_init (show ({ s with divider := k } : State).life ≠ .init from hlife),
      show ticking { s with divider := k } = true from htick, if_neg (by simp),
      if_pos (show k < s.prescaler.toNat by omega)]
    rfl

/-- Where no tick can occur, neither TICK nor the rows of its parts have an effect (R45, R165). -/
theorem tickRows_of_not_ticking {s : State} (h : ticking s = false) (prm raw : Bool) (ev : Half) (n : Fin 16) :
    ∀ c ∈ [Instr.tick prm ev, .permitChange prm, .wdWarn, .wdFired, .pulseEnd, .inputEdge n raw, .samplingPoint,
        .holdTickLimit], exec c s = .next s := by
  intro c hc
  simp only [List.mem_cons, List.not_mem_nil, or_false] at hc
  rcases hc with rfl | rfl | rfl | rfl | rfl | rfl | rfl | rfl <;>
    simp [exec, execTick, execPermitChange, execWdWarn, execWdFired, execPulseEnd, execInputEdge, execSamplingPoint,
      execHoldTickLimit, h]

/-! ## The sweep -/

/-- `k` periods into the sweep: the first `k` bytes of capture memory and then the directory read 0 (R168). -/
structure SweptTo (k : Nat) (s t : State) : Prop where
  eq : t = { s with capture := t.capture, directory := t.directory, sweep := k }
  capture_wf : t.capture.wf 65536
  directory_wf : t.directory.wf 256
  capture : ∀ a, t.capture.read a = if a < k then 0 else s.capture.read a
  directory : ∀ a, t.directory.read a = if a + 65536 < k then 0 else s.directory.read a

/-- Outside its addresses a store in canonical form reads 0. -/
theorem read_of_not_lt {m : Memory} {size a : Nat} (hm : m.wf size) (h : size ≤ a) : m.read a = 0 := by
  obtain ⟨-, hcells⟩ := hm
  induction m with
  | nil => rfl
  | cons c m ih =>
    have hc := (hcells c (by simp)).2
    rw [Memory.read, if_neg (by omega)]
    exact ih fun d hd => hcells d (by simp [hd])

/-- One more byte of the sweep. -/
theorem sweptTo_succ {k : Nat} {s t : State} (h : SweptTo k s t) (hk : k < 65792) :
    SweptTo (k + 1) s (sweepByte t) := by
  have hsweep : t.sweep = k := by rw [h.eq]
  unfold sweepByte
  rw [hsweep]
  by_cases hcapture : k < 65536
  · rw [if_pos (show k < Config.captureBytes from hcapture)]
    refine ⟨by rw [h.eq], Memory.wf_write h.capture_wf hcapture 0, h.directory_wf, fun a => ?_, fun a => ?_⟩
    · rw [read_write h.capture_wf, h.capture]
      split_ifs <;> first | rfl | omega
    · rw [h.directory]
      split_ifs <;> first | rfl | omega
  · have haddress : k - Config.captureBytes = k - 65536 := rfl
    rw [if_neg (show ¬k < Config.captureBytes from hcapture), haddress]
    refine ⟨by rw [h.eq], h.capture_wf, Memory.wf_write h.directory_wf (by omega) 0, fun a => ?_, fun a => ?_⟩
    · show t.capture.read a = _
      by_cases ha : a = k
      · rw [read_of_not_lt h.capture_wf (by omega), if_pos (by omega)]
      · rw [h.capture]
        split_ifs <;> first | rfl | omega
    · rw [read_write h.directory_wf, h.directory]
      split_ifs <;> first | rfl | omega

/-- In INIT a period clears the next byte (R168). -/
theorem refclkPeriod_of_init {s : State} (h : s.life = .init) (hsweep : s.sweep + 1 < 65792) :
    refclkPeriod s = sweepByte s := by
  unfold refclkPeriod
  rw [h]
  exact if_pos hsweep

theorem run_sweep {s : State} (hempty : s.pending = []) (hlife : s.life = .init) (hzero : s.sweep = 0)
    (hcapture : s.capture.wf 65536) (hdirectory : s.directory.wf 256) {k : Nat} (hk : k < 65792) :
    ∃ t, Host.Core.run core k s = .next t ∧ SweptTo k s t := by
  induction k with
  | zero => exact ⟨s, rfl, by rw [← hzero], hcapture, hdirectory, fun a => by simp, fun a => by simp⟩
  | succ k ih =>
    obtain ⟨t, hrun, hswept⟩ := ih (by omega)
    have htempty : t.pending = [] := by rw [hswept.eq]; exact hempty
    have htlife : t.life = .init := by rw [hswept.eq]; exact hlife
    have htsweep : t.sweep = k := by rw [hswept.eq]
    refine ⟨sweepByte t, ?_, sweptTo_succ hswept (by omega)⟩
    rw [run_succ hrun, step_of_empty htempty, refclkPeriod_of_init htlife (by omega)]
    rfl

/-- The last period of the sweep enters OPEN if RST# is high (R168). -/
theorem refclkPeriod_of_last_sweep {s : State} (h : s.life = .init) (hsweep : s.sweep = 65791)
    (hrst : s.inPins.rstLow = false) :
    ∃ p : PinLevels, p.prm = s.inPins.prm ∧ refclkPeriod s = openAfterInit s.straps p s := by
  refine ⟨{ ifsel := s.inPins.ifsel, adr := s.inPins.adr, prm := s.inPins.prm, csLow := s.inPins.csLow,
            rstLow := s.inPins.rstLow }, rfl, ?_⟩
  unfold refclkPeriod sweepEnds
  rw [h, hsweep]
  dsimp only
  rw [if_neg (by decide), if_pos (by decide), hrst, if_neg Bool.false_ne_true]

end Sys2Proof.Machine

open Sys2Proof Sys2Proof.Machine Sys2Proof.Safety

/-- Settles O2: the divider counts to the prescaler, and where nothing ticks nothing moves. -/
theorem tickEveryPPlusOnePeriods : Obligations.TickEveryPPlusOnePeriods := by
  unfold Obligations.TickEveryPPlusOnePeriods
  intro s up
  have hup_iff : linkUp s = true ↔ up := linkUp_iff s
  refine ⟨fun hup hpower hempty hzero => ?_, fun hidle hempty k => ?_, fun hidle prm raw ev n => ?_⟩
  · have hlinked := hup_iff.mpr hup
    have htick : ticking s = true := by rw [ticking, hlinked, hpower]; rfl
    have hlife : s.life ≠ .init := by rcases hup with h | h <;> rw [h] <;> decide
    refine ⟨fun k hk => run_divider hempty htick hzero hk, ?_⟩
    rw [run_succ (run_divider hempty htick hzero le_rfl), step_of_empty (by exact hempty),
      refclkPeriod_of_not_init (show ({ s with divider := s.prescaler.toNat } : State).life ≠ .init from hlife),
      show ticking { s with divider := s.prescaler.toNat } = true from htick, if_neg (by simp),
      if_neg (show ¬s.prescaler.toNat < s.prescaler.toNat by omega), tickSteps_divider]
    show _ = Host.Outcome.next _
    rw [htick, if_pos rfl]
  · have hlife : s.life ≠ .init := by
      rcases hidle with ⟨h | h, _⟩ | h | h <;> rw [h] <;> decide
    have hstill : ticking s = false := by
      rcases hidle with ⟨_, h⟩ | h | h <;> simp [ticking, linkUp, h, beq_eq_decide]
    refine run_of_still hempty ?_ k
    rw [refclkPeriod_of_not_init hlife, hstill]
    rfl
  · refine tickRows_of_not_ticking ?_ prm raw ev n
    rcases hidle with h | h
    · simp [ticking, h, beq_eq_decide]
    · have hdown : linkUp s = false := by rw [← Bool.not_eq_true, hup_iff]; exact h
      simp [ticking, hdown]

/-- Settles O3: the sweep byte by byte, and its last period. -/
theorem sweepTakes65792Periods : Obligations.SweepTakes65792Periods := by
  unfold Obligations.SweepTakes65792Periods
  intro s hempty hlife hzero hrst hcapture hdirectory
  refine ⟨fun k hk => ?_, ?_⟩
  · obtain ⟨t, hrun, hswept⟩ := run_sweep hempty hlife hzero hcapture hdirectory hk
    exact ⟨t, hrun, by rw [hswept.eq]; exact hlife, hswept.capture, hswept.directory⟩
  · obtain ⟨t, hrun, hswept⟩ := run_sweep hempty hlife hzero hcapture hdirectory (show 65791 < 65792 by omega)
    have htempty : t.pending = [] := by rw [hswept.eq]; exact hempty
    have htlife : t.life = .init := by rw [hswept.eq]; exact hlife
    have htrst : t.inPins.rstLow = false := by rw [hswept.eq]; exact hrst
    obtain ⟨p, hprm, hlast⟩ := refclkPeriod_of_last_sweep htlife (by rw [hswept.eq]) htrst
    refine ⟨openAfterInit t.straps p t, ?_, rfl, rfl, rfl, rfl, rfl, rfl, ?_, ?_⟩
    · rw [run_succ hrun, step_of_empty htempty, hlast]
      rfl
    · show p.prm = _
      rw [hprm, hswept.eq]
    · show t.straps = _
      rw [hswept.eq]

end

section
/-! SUPPORT. The freeze image byte by byte (R89): which bytes a bank's slot holds, and what BANKSNAP stores there. -/

namespace Sys2Proof.Machine

open Sys2Proof.Safety

/-! ## Lists of bytes -/

/-- Bytes stored from an address onward, read back. -/
theorem read_writeAll {m : Memory} {size a : Nat} {bytes : List Byte} (hm : m.wf size)
    (ha : a + bytes.length ≤ size) (x : Nat) : (m.writeAll a bytes).read x =
      if a ≤ x ∧ x < a + bytes.length then bytes.getD (x - a) 0 else m.read x := by
  split_ifs with h
  · have hx : x = a + (x - a) := by omega
    have hi : x - a < bytes.length := by omega
    rw [hx, Memory.read_writeAll_of_inside hm ha hi, Nat.add_sub_cancel_left, List.getD_eq_getElem _ _ hi]
  · exact Memory.read_writeAll_of_outside hm ha (by omega)

theorem length_flatMap_range {α : Type} (f : Nat → List α) {c : Nat} (hf : ∀ j, (f j).length = c) (n : Nat) :
    ((List.range n).flatMap f).length = c * n := by
  induction n with
  | zero => simp
  | succ n ih => simp [List.range_succ, ih, hf, Nat.mul_succ]

/-- Byte `i` of entry `j` in a row of entries of equal length. -/
theorem getD_flatMap_range {α : Type} (f : Nat → List α) {c : Nat} (hf : ∀ j, (f j).length = c) {n j i : Nat}
    (hj : j < n) (hi : i < c) (d : α) : ((List.range n).flatMap f).getD (c * j + i) d = (f j).getD i d := by
  induction n with
  | zero => omega
  | succ n ih =>
    have hlength := length_flatMap_range f hf n
    rw [List.range_succ, List.flatMap_append]
    by_cases hlast : j = n
    · rw [hlast, List.getD_append_right _ _ _ _ (by omega), hlength]
      simp
    · have hlt : c * j + i < c * n := by
        have := Nat.mul_le_mul_left c (show j + 1 ≤ n by omega)
        rw [Nat.mul_succ] at this
        omega
      rw [List.getD_append _ _ _ _ (by omega)]
      exact ih (by omega)

theorem getD_leBytes {w : Nat} (x : BitVec w) {n i : Nat} (hi : i < n) : (leBytes x n).getD i 0 = byteAt x i := by
  rw [leBytes_eq_map, List.getD_eq_getElem _ _ (by simpa using hi)]
  simp

/-- A member of a set that is written out from bit 0 on. -/
theorem getLsbD_bitsOf (w : Nat) (l : List Bool) (j : Nat) :
    (bitsOf w l).getLsbD j = (decide (j < w) && l.getD j false) := by
  simp only [bitsOf, BitVec.getLsbD_setWidth, BitVec.getLsbD_ofBoolListLE]

/-! ## The slots of the image -/

/-- The address lies in the bank's slot: its counters or its wrap-set field (section 5.5). -/
def inSlot (b : Bank) (x : Nat) : Bool :=
  let slot := slotOf b
  decide ((8 + 4 * slot.1 ≤ x ∧ x < 8 + 4 * (slot.1 + slot.2.1)) ∨
    (wrapFieldAt b ≤ x ∧ x < wrapFieldAt b + slot.2.2))

/-- What a copy of the bank stores at an address of its slot. -/
def slotByte (s : State) (b : Bank) (x : Nat) : Byte :=
  let slot := slotOf b
  if wrapFieldAt b ≤ x then (wrapBytes s slot.1 slot.2.1 slot.2.2).getD (x - wrapFieldAt b) 0
  else (counterBytes s slot.1 slot.2.1).getD (x - (8 + 4 * slot.1)) 0

@[simp] theorem length_counterBytes (s : State) (first n : Nat) : (counterBytes s first n).length = 4 * n :=
  length_flatMap_range _ (fun _ => length_leBytes _ 4) n

@[simp] theorem length_wrapBytes (s : State) (first n k : Nat) : (wrapBytes s first n k).length = k :=
  length_leBytes _ k

/-- A slot ends inside the image. -/
theorem slot_in_image (b : Bank) : 8 + 4 * (slotOf b).1 + 4 * (slotOf b).2.1 ≤ 188 ∧ 188 ≤ wrapFieldAt b ∧
    wrapFieldAt b + (slotOf b).2.2 ≤ 196 := by
  cases b <;> decide

theorem wf_bankCopiedIf {m : Memory} (hm : m.wf 196) (selection : Byte) (s : State) (b : Bank) :
    (bankCopiedIf selection s b m).wf 196 := by
  obtain ⟨hcounters, hfield, hend⟩ := slot_in_image b
  unfold bankCopiedIf bankCopied
  split_ifs
  · exact Memory.wf_writeAll (Memory.wf_writeAll hm (by rw [length_counterBytes]; omega))
      (by rw [length_wrapBytes]; omega)
  · exact hm

/-- A selected bank's copy shows in its slot alone. -/
theorem read_bankCopiedIf {m : Memory} (hm : m.wf 196) (selection : Byte) (s : State) (b : Bank) (x : Nat) :
    (bankCopiedIf selection s b m).read x =
      if selection.getLsbD b.index && inSlot b x then slotByte s b x else m.read x := by
  obtain ⟨hcounters, hfield, hend⟩ := slot_in_image b
  unfold bankCopiedIf
  cases hsel : selection.getLsbD b.index with
  | true =>
    have hfirst := Memory.wf_writeAll (bs := counterBytes s (slotOf b).1 (slotOf b).2.1)
      (a := 8 + 4 * (slotOf b).1) hm (by rw [length_counterBytes]; omega)
    rw [if_pos rfl, bankCopied, read_writeAll hfirst (by rw [length_wrapBytes]; omega), length_wrapBytes,
      read_writeAll hm (by rw [length_counterBytes]; omega), length_counterBytes]
    unfold slotByte inSlot
    simp only [Bool.true_and, decide_eq_true_iff]
    split_ifs <;> first | rfl | omega
  | false => rfl

/-! ## The image as BANKSNAP leaves it -/

/-- The header of the image (section 5.5). -/
def snapHeaderBytes (selection : Byte) (s : State) : List Byte :=
  leBytes (timestamp s) 4 ++ [selection &&& 0x0F, (runningBanks s.units).setWidth 8, 0, 0]

theorem snapHeaderBytes_eq (selection : Byte) (s : State) : snapHeaderBytes selection s =
    [byteAt (timestamp s) 0, byteAt (timestamp s) 1, byteAt (timestamp s) 2, byteAt (timestamp s) 3,
      selection &&& 0x0F, (runningBanks s.units).setWidth 8, 0, 0] := by
  unfold snapHeaderBytes
  rw [leBytes_eq_map]
  rfl

/-- The four banks' slots, copied where selected. -/
def slotsCopied (selection : Byte) (s : State) : Memory :=
  bankCopiedIf selection s .tally (bankCopiedIf selection s .link (bankCopiedIf selection s .dwell
    (bankCopiedIf selection s .edge s.freeze)))

section
variable {s : State} (hwf : s.freeze.wf 196) (selection : Byte)
include hwf

/-- The slots do not overlap: an address of a bank's slot holds that bank's byte if the bank is selected. -/
theorem read_slotsCopied (x : Nat) : (slotsCopied selection s).read x =
    if selection.getLsbD 3 && inSlot .tally x then slotByte s .tally x
    else if selection.getLsbD 2 && inSlot .link x then slotByte s .link x
    else if selection.getLsbD 1 && inSlot .dwell x then slotByte s .dwell x
    else if selection.getLsbD 0 && inSlot .edge x then slotByte s .edge x else s.freeze.read x := by
  have hedge := wf_bankCopiedIf hwf selection s .edge
  have hdwell := wf_bankCopiedIf hedge selection s .dwell
  have hlink := wf_bankCopiedIf hdwell selection s .link
  unfold slotsCopied
  rw [read_bankCopiedIf hlink, read_bankCopiedIf hdwell, read_bankCopiedIf hedge, read_bankCopiedIf hwf]
  rfl

theorem read_snapImage (x : Nat) : (snapImage selection s).read x =
    if x < 8 then (snapHeaderBytes selection s).getD x 0 else (slotsCopied selection s).read x := by
  have hslots : (slotsCopied selection s).wf 196 :=
    wf_bankCopiedIf (wf_bankCopiedIf (wf_bankCopiedIf (wf_bankCopiedIf hwf selection s .edge) selection s .dwell)
      selection s .link) selection s .tally
  have hlength : (snapHeaderBytes selection s).length = 8 := by rw [snapHeaderBytes_eq]; rfl
  show ((slotsCopied selection s).writeAll 0 (snapHeaderBytes selection s)).read x = _
  rw [read_writeAll hslots (by rw [hlength]; omega), hlength]
  simp

theorem read_snapImage_slot {b : Bank} {x : Nat} (hx : inSlot b x = true) : (snapImage selection s).read x =
    if selection.getLsbD b.index then slotByte s b x else s.freeze.read x := by
  have hheader : ¬x < 8 := by
    have hfield := slot_in_image b
    simp only [inSlot, decide_eq_true_iff] at hx
    omega
  have hother (c : Bank) (hc : c ≠ b) : inSlot c x = false := by
    refine Bool.eq_false_iff.mpr fun hy => ?_
    simp only [inSlot, decide_eq_true_iff] at hx hy
    cases b <;> cases c <;> first | exact hc rfl | (simp only [slotOf, wrapFieldAt] at hx hy; omega)
  rw [read_snapImage hwf, if_neg hheader, read_slotsCopied hwf]
  cases b <;> simp [hx, hother, Bank.index, -BitVec.getLsbD_eq_getElem] <;> rfl

theorem read_snapImage_beyond {x : Nat} (hx : 194 ≤ x) : (snapImage selection s).read x = s.freeze.read x := by
  have hnone (b : Bank) : inSlot b x = false := by
    refine Bool.eq_false_iff.mpr fun hy => ?_
    simp only [inSlot, decide_eq_true_iff] at hy
    cases b <;> simp only [slotOf, wrapFieldAt] at hy <;> omega
  rw [read_snapImage hwf, if_neg (by omega), read_slotsCopied hwf]
  simp [hnone]

end

/-! ## What a slot holds -/

/-- A counter's place in its bank's slot. -/
theorem counter_in_slot (k : Fin 45) : (slotOf (bankOf k)).1 ≤ k.val ∧
    k.val < (slotOf (bankOf k)).1 + (slotOf (bankOf k)).2.1 := by
  unfold bankOf
  split_ifs <;> simp [slotOf] <;> omega

theorem inSlot_counter (k : Fin 45) (i : Fin 4) : inSlot (bankOf k) (8 + 4 * k.val + i.val) = true := by
  have h := counter_in_slot k
  simp only [inSlot, decide_eq_true_iff]
  omega

theorem slotByte_counter (s : State) (k : Fin 45) (i : Fin 4) :
    slotByte s (bankOf k) (8 + 4 * k.val + i.val) = byteAt s.counters.value[k] i.val := by
  obtain ⟨hfirst, hlast⟩ := counter_in_slot k
  have himage := slot_in_image (bankOf k)
  have hindex : 8 + 4 * k.val + i.val - (8 + 4 * (slotOf (bankOf k)).1) =
      4 * (k.val - (slotOf (bankOf k)).1) + i.val := by omega
  have hcounter : counterAt s ((slotOf (bankOf k)).1 + (k.val - (slotOf (bankOf k)).1)) = s.counters.value[k] := by
    rw [Nat.add_sub_cancel' hfirst, counterAt, dif_pos k.isLt]
    rfl
  unfold slotByte
  dsimp only
  rw [if_neg (by omega), hindex, counterBytes,
    getD_flatMap_range _ (fun _ => length_leBytes _ 4) (by omega) i.isLt, getD_leBytes _ i.isLt, hcounter]

theorem inSlot_wrapPlace (k : Fin 45) : inSlot (bankOf k) (wrapPlace k).1 = true := by
  unfold bankOf wrapPlace
  split_ifs <;> simp [inSlot, slotOf, wrapFieldAt] <;> omega

/-- A bit of the wrap-set field of counters that begin at `first`. -/
theorem getLsbD_wrapBytes (s : State) (first n k i j : Nat) (hi : i < k) (hj : j < 8) :
    ((wrapBytes s first n k).getD i 0).getLsbD j =
      (decide (8 * i + j < 16) && decide (8 * i + j < n) &&
        s.counters.wrapped.toList.getD (first + (8 * i + j)) false) := by
  rw [wrapBytes, getD_leBytes _ hi, getLsbD_byteAt, getLsbD_bitsOf, decide_eq_true hj, Bool.true_and]
  by_cases h : 8 * i + j < n
  · rw [List.getD_eq_getElem _ _ (by simpa using h)]
    simp [h]
  · rw [List.getD_eq_default _ _ (by simpa using h)]
    simp [h]

theorem slotByte_wrapPlace (s : State) (k : Fin 45) :
    (slotByte s (bankOf k) (wrapPlace k).1).getLsbD (wrapPlace k).2 = s.counters.wrapped[k] := by
  obtain ⟨i, j, hplace, hi, hj, hindex, hfirst, hcount⟩ : ∃ i j, wrapPlace k = (wrapFieldAt (bankOf k) + i, j) ∧
      i < (slotOf (bankOf k)).2.2 ∧ j < 8 ∧ 8 * i + j < 16 ∧ (slotOf (bankOf k)).1 + (8 * i + j) = k.val ∧
      8 * i + j < (slotOf (bankOf k)).2.1 := by
    unfold wrapPlace bankOf
    split_ifs with h16 h32 h40
    · exact ⟨k.val / 8, k.val % 8, rfl, by simp [slotOf]; omega, by omega, by omega, by simp [slotOf]; omega,
        by simp [slotOf]; omega⟩
    · exact ⟨(k.val - 16) / 8, k.val % 8, rfl, by simp [slotOf]; omega, by omega, by omega, by simp [slotOf]; omega,
        by simp [slotOf]; omega⟩
    · exact ⟨0, k.val - 32, rfl, by simp [slotOf], by omega, by omega, by simp [slotOf]; omega,
        by simp [slotOf]; omega⟩
    · exact ⟨0, k.val - 40, rfl, by simp [slotOf], by omega, by omega, by simp [slotOf]; omega,
        by simp [slotOf]; omega⟩
  rw [hplace]
  unfold slotByte
  dsimp only
  rw [if_pos (by omega), Nat.add_sub_cancel_left, getLsbD_wrapBytes _ _ _ _ _ _ hi hj, hfirst,
    decide_eq_true hindex, decide_eq_true hcount, List.getD_eq_getElem _ _ (by simp)]
  simp

theorem inSlot_tally_field : inSlot .tally 193 = true := by decide

/-- Five of the eight bits of TALLY's wrap-set field stand for counters (section 5.5). -/
theorem slotByte_tally_field (s : State) : (slotByte s .tally 193).extractLsb' 5 3 = 0 := by
  refine extractLsb'_eq_of_getLsbD fun i hi => ?_
  show ((wrapBytes s 40 5 1).getD 0 0).getLsbD (5 + i) = _
  rw [getLsbD_wrapBytes _ _ _ _ _ _ (by omega) (by omega)]
  simp

/-- The Running banks, by their bit positions (R89). -/
theorem getLsbD_runningBanks (u : Units) (b : Bank) :
    (runningBanks u).getLsbD b.index = (u.bank b == .running) := by
  unfold runningBanks bankBits
  rw [getLsbD_bitsOf]
  cases b <;> rfl

/-- The timestamp's bytes are the low four of the timebase (R47). -/
theorem byteAt_timestamp (s : State) {i : Nat} (hi : i < 4) : byteAt (timestamp s) i = byteAt s.timebase i := by
  refine BitVec.eq_of_getLsbD_eq fun j hj => ?_
  rw [getLsbD_byteAt, getLsbD_byteAt, timestamp, BitVec.getLsbD_setWidth,
    decide_eq_true (show 8 * i + j < 32 by omega), Bool.true_and]

end Sys2Proof.Machine

open Sys2Proof Sys2Proof.Machine Sys2Proof.Safety

/-- Settles O35: the image that BANKSNAP leaves, address by address. -/
theorem banksnapCopiesBanks : Obligations.BanksnapCopiesBanks := by
  unfold Obligations.BanksnapCopiesBanks
  intro selection s hpass hrange hsome hwf chosen
  have h := accepts_command (c := .banksnap selection) rfl rfl hpass (by
    rw [operandsInRange_banksnap, Bool.and_eq_true, bne_iff_ne, beq_iff_eq, and_E0_eq_zero_iff]
    exact ⟨hsome, hrange⟩) rfl
  rw [effectOf_banksnap, banksnapEffect_eq] at h
  refine ⟨_, h, rfl, fun i => ?_, ?_, fun b _ => ?_, ?_, ?_, ?_, fun k i => ?_, fun k => ?_, ?_, fun a ha => ?_⟩
  · show (snapImage selection s).read i.val = byteAt s.timebase i.val
    rw [read_snapImage hwf, if_pos (by omega), snapHeaderBytes_eq, ← byteAt_timestamp s i.isLt]
    fin_cases i <;> rfl
  · show (snapImage selection s).read 4 = _
    rw [read_snapImage hwf, if_pos (by omega), snapHeaderBytes_eq]
    rfl
  · show ((snapImage selection s).read 5).getLsbD b.index = true ↔ _
    rw [read_snapImage hwf, if_pos (by omega), snapHeaderBytes_eq]
    show ((runningBanks s.units).setWidth 8).getLsbD b.index = true ↔ _
    rw [BitVec.getLsbD_setWidth, getLsbD_runningBanks, beq_eq_decide]
    cases b <;> simp [Bank.index]
  · show ((snapImage selection s).read 5).extractLsb' 4 4 = 0
    rw [read_snapImage hwf, if_pos (by omega), snapHeaderBytes_eq]
    refine extractLsb'_eq_of_getLsbD fun i hi => ?_
    show ((runningBanks s.units).setWidth 8).getLsbD (4 + i) = _
    simp
  · show (snapImage selection s).read 6 = 0
    rw [read_snapImage hwf, if_pos (by omega), snapHeaderBytes_eq]
    rfl
  · show (snapImage selection s).read 7 = 0
    rw [read_snapImage hwf, if_pos (by omega), snapHeaderBytes_eq]
    rfl
  · exact (read_snapImage_slot hwf selection (inSlot_counter k i)).trans (by rw [slotByte_counter]; rfl)
  · show ((snapImage selection s).read (wrapPlace k).1).getLsbD (wrapPlace k).2 = _
    rw [read_snapImage_slot hwf selection (inSlot_wrapPlace k), apply_ite (BitVec.getLsbD · (wrapPlace k).2),
      slotByte_wrapPlace]
  · show ((snapImage selection s).read 193).extractLsb' 5 3 = _
    rw [read_snapImage_slot hwf selection inSlot_tally_field, apply_ite (BitVec.extractLsb' 5 3),
      slotByte_tally_field]
    rfl
  · exact read_snapImage_beyond hwf selection ha

end

section
/-! SUPPORT. Counts that come with a cause or come several at once (R83, R112, R122), the offer rule as a whole next state
(R112), and the lengths of the records (R94). -/

namespace Sys2Proof.Machine

open Sys2Proof.Safety

/-! ## Counts and causes -/

/-- A cause raised at the event of a count: the two raisings coalesce in either order (R144). -/
theorem raise_offerCount (cause : Cause) (c : Fin 45) (s : State) :
    raise cause (offerCount c s) = offerCount c (raise cause s) := by
  have hor (x y z : Half) : x ||| y ||| z = x ||| z ||| y := by rw [BitVec.or_assoc, BitVec.or_comm y, BitVec.or_assoc]
  unfold offerCount raise
  split_ifs with hrunning
  · dsimp only
    split_ifs <;> simp only [hor s.alerts.raised Cause.counterWrap.bit]
  · rfl

theorem raiseIf_offerCount (p : Bool) (cause : Cause) (c : Fin 45) (s : State) :
    (if p then raise cause (offerCount c s) else offerCount c s) = offerCount c (if p then raise cause s else s) := by
  cases p
  · rfl
  · exact raise_offerCount cause c s

/-- Several counts offered to one counter: it wraps exactly if they carry it past its greatest value (R83). -/
theorem countedTimes_offerCounts (c : Fin 45) (n : Nat) (s : State) : CountedTimes c n s (offerCounts c n s) := by
  induction n generalizing s with
  | zero =>
    have hv := (s.counters.value[c]).isLt
    exact ⟨fun k => by simp [offerCounts], fun k => by simp [offerCounts]; omega, rfl, by simp [offerCounts]; omega⟩
  | succ n ih =>
    obtain ⟨hvalue, hwrapped, henables, hraised⟩ := ih (offerCount c s)
    have hrunning : Running c (offerCount c s) ↔ Running c s := by simp [Running]
    have hown := offerCount_value c c s
    have hwraps : Running c s → ((2 ^ 32 ≤ ((offerCount c s).counters.value[c]).toNat + n ∨
        s.counters.value[c] = 0xFFFFFFFF) ↔ 2 ^ 32 ≤ (s.counters.value[c]).toNat + (n + 1)) := by
      intro hr
      rw [hown, if_pos ⟨rfl, hr⟩, ← BitVec.toNat_inj, BitVec.toNat_add,
        show (0xFFFFFFFF : Word).toNat = 2 ^ 32 - 1 from rfl, show (1 : Word).toNat = 1 from rfl]
      have hlt := (s.counters.value[c]).isLt
      omega
    rw [offerCounts]
    refine ⟨fun k => ?_, fun k => ?_, ?_, ?_⟩
    · rw [hvalue, offerCount_value]
      by_cases hk : k = c ∧ Running c s
      · rw [if_pos ⟨hk.1, hrunning.mpr hk.2⟩, if_pos hk, if_pos hk, BitVec.add_assoc]
        congr 1
        rw [← BitVec.toNat_inj]
        simp [Nat.add_comm]
      · rw [if_neg (by rwa [hrunning]), if_neg hk, if_neg hk]
    · rw [hwrapped, offerCount_wrapped]
      simp only [Bool.or_eq_true, decide_eq_true_eq, hrunning, word_add_one_eq_zero_iff]
      constructor
      · rintro ((h | ⟨hk, hr, hmax⟩) | ⟨hk, hr, hcarry⟩)
        · exact .inl h
        · exact .inr ⟨hk, hr, (hwraps hr).mp (.inr hmax)⟩
        · exact .inr ⟨hk, hr, (hwraps hr).mp (.inl hcarry)⟩
      · rintro (h | ⟨hk, hr, hcarry⟩)
        · exact .inl (.inl h)
        · exact ((hwraps hr).mpr hcarry).elim (fun h => .inr ⟨hk, hr, h⟩) (fun h => .inl (.inr ⟨hk, hr, h⟩))
    · rw [henables, offerCount_wrapAlert]
    · rw [hraised, offerCount_raised]
      simp only [hrunning, offerCount_wrapAlert, word_add_one_eq_zero_iff, Cause.bit, raised_on_either_ground]
      refine if_congr ?_ rfl rfl
      constructor
      · rintro (⟨⟨hr, hcarry⟩, he⟩ | ⟨hr, hmax, he⟩)
        · exact ⟨⟨hr, (hwraps hr).mp (.inl hcarry)⟩, he⟩
        · exact ⟨⟨hr, (hwraps hr).mp (.inr hmax)⟩, he⟩
      · rintro ⟨⟨hr, hcarry⟩, he⟩
        exact ((hwraps hr).mpr hcarry).elim (fun h => .inl ⟨⟨hr, h⟩, he⟩) (fun h => .inr ⟨hr, h, he⟩)

theorem offerCounts_shape (c : Fin 45) (n : Nat) (s : State) :
    ∃ counters raised, offerCounts c n s =
      { s with counters := counters, alerts := { s.alerts with raised := raised } } := by
  induction n generalizing s with
  | zero => exact ⟨s.counters, s.alerts.raised, rfl⟩
  | succ n ih =>
    obtain ⟨counters, raised, h⟩ := offerCount_shape c s
    obtain ⟨counters', raised', h'⟩ := ih (offerCount c s)
    exact ⟨counters', raised', by rw [offerCounts, h', h]⟩

/-- Records discarded, each with one count to TALLY counter 43 (R83). -/
theorem discards_discardQueue (s : State) : Discards s.recorder.queue.length s (discardQueue s) := by
  refine ⟨countedTimes_offerCounts 43 s.recorder.queue.length s, ?_⟩
  obtain ⟨counters, raised, h⟩ := offerCounts_shape 43 s.recorder.queue.length s
  unfold discardQueue
  dsimp only
  rw [h]

/-! ## The offer rule -/

/-- A lost record: RECORD_LOSS and one count to TALLY counter 41 (R112). -/
theorem countLost_eq (s : State) : countLost s = offerCount 41 (raise .recordLoss s) := raise_offerCount _ _ _

theorem satInc_eq {w : Nat} (x : BitVec w) : satInc x = if x = BitVec.allOnes w then BitVec.allOnes w else x + 1 := by
  unfold satInc
  split_ifs with h
  · exact h
  · rfl

theorem counted_countLost (s : State) :
    Counted (fun k => k == 41) { s with alerts := { s.alerts with raised := s.alerts.raised ||| 8 } } (countLost s) := by
  rw [countLost_eq]
  exact counted_offerCount_self 41 (raise .recordLoss s)

theorem countLost_shape (s : State) :
    ∃ counters raised, countLost s = { s with counters := counters, alerts := { s.alerts with raised := raised } } := by
  rw [countLost_eq]
  exact offerCount_shape 41 (raise .recordLoss s)

/-- An offer on a full queue is lost (R112). -/
theorem offer_of_full {s : State} (h : 8 ≤ s.recorder.queue.length) (r : Rec) : offer r s =
    countLost { s with recorder := { s.recorder with
      lossTime := if s.recorder.lossCount = 0 then some r.time else s.recorder.lossTime
      lossCount := satInc s.recorder.lossCount } } := by
  unfold offer
  exact if_pos h

/-- Without losses tallied an offer on a queue with room is enqueued (R112). -/
theorem offer_of_room {s : State} (h : s.recorder.queue.length < 8) (hloss : s.recorder.lossCount = 0) (r : Rec) :
    offer r s = { s with recorder := { s.recorder with queue := s.recorder.queue ++ [r] } } := by
  unfold offer
  dsimp only
  rw [if_neg (show ¬Config.queueDepth ≤ s.recorder.queue.length from Nat.not_le.mpr h), if_pos hloss]
  rfl

/-- With losses tallied and room for two, the LOSS record goes ahead of the offered one (R112). -/
theorem offer_of_room_two {s : State} (h : s.recorder.queue.length < 7) (hloss : s.recorder.lossCount ≠ 0) (r : Rec) :
    offer r s = { s with recorder := { s.recorder with
      queue := s.recorder.queue ++ [.loss s.recorder.lossCount (s.recorder.lossTime.getD 0), r]
      lossCount := 0, lossTime := none } } := by
  unfold offer
  dsimp only
  rw [if_neg (show ¬Config.queueDepth ≤ s.recorder.queue.length by unfold Config.queueDepth; omega), if_neg hloss,
    if_neg (show ¬s.recorder.queue.length + 1 = Config.queueDepth by unfold Config.queueDepth; omega)]
  unfold enqueue clearLoss lossRecord
  simp only [List.append_assoc, List.singleton_append]

/-- With losses tallied and room for one, the offered record is absorbed into the LOSS record (R112). -/
theorem offer_of_room_one {s : State} (h : s.recorder.queue.length = 7) (hloss : s.recorder.lossCount ≠ 0) (r : Rec) :
    offer r s = countLost { s with recorder := { s.recorder with
      queue := s.recorder.queue ++ [.loss (satInc s.recorder.lossCount) (s.recorder.lossTime.getD 0)]
      lossCount := 0, lossTime := none } } := by
  unfold offer
  dsimp only
  rw [if_neg (show ¬Config.queueDepth ≤ s.recorder.queue.length by unfold Config.queueDepth; omega), if_neg hloss,
    if_pos (show s.recorder.queue.length + 1 = Config.queueDepth by unfold Config.queueDepth; omega)]
  rfl

/-- What an offer is as a whole next state: the queue, the loss tally, the counters and the pending set alone can
differ. -/
theorem offer_shape (r : Rec) (s : State) : ∃ queue lossCount lossTime counters raised, offer r s = { s with
    recorder := { s.recorder with queue := queue, lossCount := lossCount, lossTime := lossTime }
    counters := counters
    alerts := { s.alerts with raised := raised } } := by
  by_cases hfull : 8 ≤ s.recorder.queue.length
  · obtain ⟨counters, raised, h⟩ := countLost_shape { s with recorder := { s.recorder with
      lossTime := if s.recorder.lossCount = 0 then some r.time else s.recorder.lossTime
      lossCount := satInc s.recorder.lossCount } }
    exact ⟨s.recorder.queue, satInc s.recorder.lossCount,
      if s.recorder.lossCount = 0 then some r.time else s.recorder.lossTime, counters, raised,
      (offer_of_full hfull r).trans h⟩
  by_cases hloss : s.recorder.lossCount = 0
  · exact ⟨s.recorder.queue ++ [r], s.recorder.lossCount, s.recorder.lossTime, s.counters, s.alerts.raised,
      offer_of_room (by omega) hloss r⟩
  by_cases hone : s.recorder.queue.length = 7
  · obtain ⟨counters, raised, h⟩ := countLost_shape { s with recorder := { s.recorder with
      queue := s.recorder.queue ++ [.loss (satInc s.recorder.lossCount) (s.recorder.lossTime.getD 0)]
      lossCount := 0, lossTime := none } }
    exact ⟨s.recorder.queue ++ [.loss (satInc s.recorder.lossCount) (s.recorder.lossTime.getD 0)], 0, none, counters,
      raised, (offer_of_room_one hone hloss r).trans h⟩
  · exact ⟨s.recorder.queue ++ [.loss s.recorder.lossCount (s.recorder.lossTime.getD 0), r], 0, none, s.counters,
      s.alerts.raised, offer_of_room_two (by omega) hloss r⟩

/-! ## The lengths of the records -/

theorem length_snapFieldsBytes (f : SnapFields) : f.bytes.length = 11 := by simp [SnapFields.bytes]

/-- A record takes whole words, and at most twelve of them (R94). -/
theorem length_bytes (r : Rec) : r.bytes.length % 4 = 0 ∧ 0 < r.bytes.length ∧ r.bytes.length ≤ 48 := by
  cases r with
  | snapshot f => simp [Rec.bytes, length_snapFieldsBytes]
  | extended f valid values =>
    have hvalues : (extendedValues values).length ≤ 8 := by simp [extendedValues]
    have hflat : ((extendedValues values).flatMap fun v => leBytes v 4).length = 4 * (extendedValues values).length := by
      induction extendedValues values with
      | nil => rfl
      | cons v l ih => simp [ih]; omega
    simp only [Rec.bytes, List.length_cons, List.length_append, length_snapFieldsBytes, hflat, List.length_nil]
    omega
  | event | mark | supervisor | resume | loss => simp [Rec.bytes]

end Sys2Proof.Machine

open Sys2Proof Sys2Proof.Machine Sys2Proof.Safety

/-- Settles O42: one whole next state for each occupancy of the queue. -/
theorem offerRule : Obligations.OfferRule := by
  unfold Obligations.OfferRule
  intro r s n tally more first lost rest t
  have hmore : satInc s.recorder.lossCount = more := satInc_eq _
  refine ⟨?_, fun hfull => ?_, fun hroom hloss => ?_, fun hroom hloss => ?_, fun hroom hloss => ?_⟩
  · obtain ⟨queue, lossCount, lossTime, counters, raised, h⟩ := offer_shape r s
    show offer r s = rest (offer r s)
    rw [h]
  · have h : t = _ := offer_of_full hfull r
    obtain ⟨counters, raised, hshape⟩ := countLost_shape { s with recorder := { s.recorder with
      lossTime := if s.recorder.lossCount = 0 then some r.time else s.recorder.lossTime
      lossCount := satInc s.recorder.lossCount } }
    refine ⟨?_, ?_, ?_, ?_⟩
    · rw [h, hshape]
    · rw [h, hshape]; exact hmore
    · rw [h, hshape]
    · rw [h]; exact counted_countLost _
  · have h : t = _ := offer_of_room_two hroom hloss r
    exact ⟨by rw [h], by rw [h], by rw [h], by rw [h], by rw [h]⟩
  · have h : t = _ := offer_of_room_one hroom hloss r
    obtain ⟨counters, raised, hshape⟩ := countLost_shape { s with recorder := { s.recorder with
      queue := s.recorder.queue ++ [.loss (satInc s.recorder.lossCount) (s.recorder.lossTime.getD 0)]
      lossCount := 0, lossTime := none } }
    refine ⟨?_, ?_, ?_, ?_⟩
    · rw [h, hshape, ← hmore]
    · rw [h, hshape]
    · rw [h, hshape]
    · rw [h]; exact counted_countLost _
  · exact offer_of_room hroom hloss r

end

section
/-! SUPPORT. The writer in the terms of the statements (chapters 6 and 7): what each of its moves makes of the state and
of the bytes of a leaf. -/

namespace Sys2Proof.Machine

open Sys2Proof.Safety

/-! ## The bytes of a leaf -/

/-- A leaf lies inside capture memory (R92). -/
theorem leaf_in_capture (leaf : Byte) : 256 * leaf.toNat + 256 ≤ 65536 := by
  have := leaf.isLt
  omega

section
variable {s : State} (hwf : s.capture.wf 65536) (leaf : Byte) {offset : Nat} {bytes : List Byte}
  (hbytes : offset + bytes.length ≤ 256)
include hwf hbytes

theorem wf_writeLeaf : (writeLeaf leaf offset bytes s).capture.wf 65536 := by
  have hleaf := leaf_in_capture leaf
  exact Memory.wf_writeAll hwf (show 256 * leaf.toNat + offset + bytes.length ≤ 65536 by omega)

theorem read_writeLeaf (a : Nat) : (writeLeaf leaf offset bytes s).capture.read a =
    if 256 * leaf.toNat + offset ≤ a ∧ a < 256 * leaf.toNat + offset + bytes.length
    then bytes.getD (a - (256 * leaf.toNat + offset)) 0 else s.capture.read a := by
  have hleaf := leaf_in_capture leaf
  exact read_writeAll hwf (show 256 * leaf.toNat + offset + bytes.length ≤ 65536 by omega) a

theorem leafByte_writeLeaf (o : Nat) : leafByte (writeLeaf leaf offset bytes s) leaf o =
    if offset ≤ o ∧ o < offset + bytes.length then bytes.getD (o - offset) 0 else leafByte s leaf o := by
  show (writeLeaf leaf offset bytes s).capture.read (256 * leaf.toNat + o) = _
  rw [read_writeLeaf hwf leaf hbytes]
  refine if_congr (by omega) ?_ rfl
  rw [Nat.add_sub_add_left]

end

/-- A leaf's bytes are those of capture memory alone. -/
theorem leafByte_congr {s t : State} (h : t.capture = s.capture) (leaf : Byte) (o : Nat) :
    leafByte t leaf o = leafByte s leaf o := by
  unfold leafByte
  rw [h]

/-- Another leaf's bytes stay (R92). -/
theorem leafByte_eq_of_outside {s t : State} {leaf : Byte} (h : ∀ a : Nat, a < 256 * leaf.toNat ∨
    256 * leaf.toNat + 256 ≤ a → t.capture.read a = s.capture.read a) {other : Byte} (hne : other ≠ leaf) {o : Nat}
    (ho : o < 256) : leafByte t other o = leafByte s other o := by
  have hnat : other.toNat ≠ leaf.toNat := fun h => hne (BitVec.eq_of_toNat_eq h)
  exact h _ (by unfold Config.leafBytes; omega)

/-- Of the state before the counts only the units, the counters and the pending set matter. -/
theorem counted_congr {offered : Fin 45 → Bool} {e e' t : State} (h : Counted offered e t) (hunits : e'.units = e.units)
    (hcounters : e'.counters = e.counters) (hraised : e'.alerts.raised = e.alerts.raised) : Counted offered e' t := by
  unfold Counted Running at *
  rw [hunits, hcounters, hraised]
  exact h

/-! ## Seals -/

theorem sealBytes_eq (notify : Bool) (records offset : Nat) (leafSeq : Half) (timebase : BitVec 48) :
    sealBytes notify records offset leafSeq timebase =
      [if notify then 3 else 1, BitVec.ofNat 8 records, BitVec.ofNat 8 (offset / 4), 0, 0, 0, byteAt leafSeq 0,
        byteAt leafSeq 1, byteAt timebase 0, byteAt timebase 1, byteAt timebase 2, byteAt timebase 3,
        byteAt timebase 4, byteAt timebase 5, 0, 0] := by
  unfold sealBytes
  rw [leBytes_two, leBytes_eq_map]
  cases notify <;> rfl

theorem openSeal_eq (notify : Bool) : openSeal notify = (if notify then 2 else 0) :: List.replicate 15 0 := by
  cases notify <;> rfl

/-- The state with the cursor's leaf filled and its seal written, the count apart (R122). -/
def sealWritten (s : State) : State :=
  let c := s.recorder.cursor
  { writeLeaf c.leaf 240 (sealBytes (notifyOf s c.leaf) s.recorder.records c.offset s.recorder.leafSeq s.timebase)
      (writeLeaf c.leaf c.offset (List.replicate (240 - c.offset) 0) s) with
    recorder := { s.recorder with leafSeq := s.recorder.leafSeq + 1 }
    alerts := { s.alerts with raised := if notifyOf s c.leaf then s.alerts.raised ||| 2 else s.alerts.raised } }

/-- Steps 1 to 5 of sealing are one count on the state with the seal written (R122). -/
theorem writeSeal_eq (s : State) : writeSeal s = offerCount 44 (sealWritten s) := by
  unfold writeSeal sealWritten
  dsimp only
  rw [raiseIf_offerCount]
  congr 1
  unfold raise
  cases notifyOf s s.recorder.cursor.leaf <;> simp only [Config.recordArea, wrapInc] <;> rfl

/-- The bytes of the seal of the cursor's leaf. -/
def ownSeal (s : State) : List Byte :=
  sealBytes (notifyOf s s.recorder.cursor.leaf) s.recorder.records s.recorder.cursor.offset s.recorder.leafSeq s.timebase

/-- The cursor's leaf with the rest of its record area filled. -/
def leafFilled (s : State) : State :=
  writeLeaf s.recorder.cursor.leaf s.recorder.cursor.offset (List.replicate (240 - s.recorder.cursor.offset) 0) s

theorem sealWritten_capture (s : State) :
    (sealWritten s).capture = (writeLeaf s.recorder.cursor.leaf 240 (ownSeal s) (leafFilled s)).capture := by
  unfold sealWritten ownSeal leafFilled
  dsimp only

@[simp] theorem length_ownSeal (s : State) : (ownSeal s).length = 16 := by
  unfold ownSeal
  rw [sealBytes_eq]
  rfl

section
variable {s : State} (hwf : s.capture.wf 65536) (hoffset : s.recorder.cursor.offset ≤ 240)
include hwf hoffset

theorem leafFilled_wf : (leafFilled s).capture.wf 65536 :=
  wf_writeLeaf hwf _ (by rw [List.length_replicate]; omega)

theorem wf_sealWritten : (sealWritten s).capture.wf 65536 := by
  rw [sealWritten_capture]
  exact wf_writeLeaf (leafFilled_wf hwf hoffset) _ (by rw [length_ownSeal])

/-- The bytes of the sealed leaf. -/
theorem leafByte_sealWritten (o : Nat) : leafByte (sealWritten s) s.recorder.cursor.leaf o =
    if 240 ≤ o ∧ o < 256 then (ownSeal s).getD (o - 240) 0
    else if s.recorder.cursor.offset ≤ o ∧ o < 240 then 0 else leafByte s s.recorder.cursor.leaf o := by
  have hfill : s.recorder.cursor.offset + (List.replicate (240 - s.recorder.cursor.offset) (0 : Byte)).length ≤ 256 := by
    rw [List.length_replicate]; omega
  have hend : s.recorder.cursor.offset + (240 - s.recorder.cursor.offset) = 240 := by omega
  rw [leafByte_congr (sealWritten_capture s), leafByte_writeLeaf (leafFilled_wf hwf hoffset) _ (by rw [length_ownSeal]),
    length_ownSeal]
  refine if_congr Iff.rfl rfl ?_
  unfold leafFilled
  rw [leafByte_writeLeaf hwf _ hfill, List.length_replicate, hend]
  refine if_congr Iff.rfl ?_ rfl
  by_cases h : o - s.recorder.cursor.offset < 240 - s.recorder.cursor.offset
  · rw [List.getD_eq_getElem _ _ (by rwa [List.length_replicate]), List.getElem_replicate]
  · rw [List.getD_eq_default _ _ (by rw [List.length_replicate]; omega)]

theorem read_sealWritten_of_outside {a : Nat}
    (ha : a < 256 * s.recorder.cursor.leaf.toNat ∨ 256 * s.recorder.cursor.leaf.toNat + 256 ≤ a) :
    (sealWritten s).capture.read a = s.capture.read a := by
  have hfill : s.recorder.cursor.offset + (List.replicate (240 - s.recorder.cursor.offset) (0 : Byte)).length ≤ 256 := by
    rw [List.length_replicate]; omega
  rw [sealWritten_capture, read_writeLeaf (leafFilled_wf hwf hoffset) _ (by rw [length_ownSeal]), length_ownSeal,
    if_neg (by omega)]
  unfold leafFilled
  rw [read_writeLeaf hwf _ hfill, List.length_replicate, if_neg (by omega)]

/-- Sealing the cursor's leaf, the advance apart (R100, R122). -/
theorem seals_writeSeal : Seals s (writeSeal s) := by
  have hcapture : (writeSeal s).capture = (sealWritten s).capture := by rw [writeSeal_eq]; simp
  have hbyte (o : Nat) : leafByte (writeSeal s) s.recorder.cursor.leaf o =
      leafByte (sealWritten s) s.recorder.cursor.leaf o :=
    leafByte_congr hcapture _ o
  have hseal (o : Nat) (ho : 240 ≤ o ∧ o < 256) :
      leafByte (writeSeal s) s.recorder.cursor.leaf o = (ownSeal s).getD (o - 240) 0 :=
    (hbyte o).trans ((leafByte_sealWritten hwf hoffset o).trans (if_pos ho))
  unfold ownSeal at hseal
  simp only [sealBytes_eq] at hseal
  refine ⟨?_, fun o => ?_, ?_, ?_, ?_, ?_, ?_, ?_, fun i => ?_, fun i => ?_, ?_, ?_, fun a ha => ?_, ?_⟩
  · rw [writeSeal_eq]
    refine counted_congr (counted_offerCount_self 44 (sealWritten s)) ?_ ?_ ?_ <;> simp [sealWritten, notifyOf]
  · rw [hbyte, leafByte_sealWritten hwf hoffset, if_neg (by omega)]
    by_cases h : o.val < s.recorder.cursor.offset
    · rw [if_neg (by omega), if_pos h]
    · rw [if_pos (by omega), if_neg h]
  · rw [hseal _ (by omega)]; rfl
  · rw [hseal _ (by omega)]; rfl
  · rw [hseal _ (by omega)]; rfl
  · rw [hseal _ (by omega)]; rfl
  · rw [hseal _ (by omega)]; rfl
  · rw [hseal _ (by omega)]; rfl
  · rw [hseal _ (by omega)]
    fin_cases i <;> rfl
  · rw [hseal _ (by omega)]
    fin_cases i <;> rfl
  · rw [hseal _ (by omega)]; rfl
  · rw [hseal _ (by omega)]; rfl
  · rw [hcapture, read_sealWritten_of_outside hwf hoffset ha]
  · obtain ⟨counters, raised, h⟩ := offerCount_shape 44 (sealWritten s)
    rw [writeSeal_eq, h]
    unfold sealWritten writeLeaf
    dsimp only

end

end Sys2Proof.Machine
end

section
/-! SUPPORT. The writer's moves as the relations of the statements: a record placed or dropped, the end of a walk, an
arrival, an advance, and with them the drain (R118 to R126). -/

namespace Sys2Proof.Machine

open Sys2Proof.Safety

/-! ## A record placed or dropped -/

/-- The record's bytes and the end marker behind them, the count apart (R119). -/
def recordWritten (r : Rec) (s : State) : State :=
  let c := s.recorder.cursor
  let t := writeLeaf c.leaf c.offset r.bytes s
  if c.offset + r.length < Config.recordArea then writeLeaf c.leaf (c.offset + r.length) [0] t else t

theorem placeRecord_eq (r : Rec) (s : State) : placeRecord r s = offerCount 40 { s with
    capture := (recordWritten r s).capture
    recorder := { s.recorder with
      cursor := { s.recorder.cursor with offset := s.recorder.cursor.offset + r.length }
      records := s.recorder.records + 1 } } := by
  unfold placeRecord recordWritten
  dsimp only
  split_ifs <;> simp only [writeLeaf]

section
variable {s : State} (hwf : s.capture.wf 65536) {r : Rec} (hfits : s.recorder.cursor.offset + r.bytes.length ≤ 240)
include hwf hfits

theorem wf_recordWritten : (recordWritten r s).capture.wf 65536 := by
  unfold recordWritten
  dsimp only
  have hfirst := wf_writeLeaf (bytes := r.bytes) hwf s.recorder.cursor.leaf (offset := s.recorder.cursor.offset)
    (by omega)
  split_ifs with hmarker
  · exact wf_writeLeaf hfirst _ (by simp only [List.length_singleton]; unfold Rec.length; omega)
  · exact hfirst

theorem read_recordWritten (a : Nat) : (recordWritten r s).capture.read a =
    if 256 * s.recorder.cursor.leaf.toNat + s.recorder.cursor.offset ≤ a ∧
        a < 256 * s.recorder.cursor.leaf.toNat + s.recorder.cursor.offset + r.bytes.length then
      r.bytes.getD (a - (256 * s.recorder.cursor.leaf.toNat + s.recorder.cursor.offset)) 0
    else if a = 256 * s.recorder.cursor.leaf.toNat + s.recorder.cursor.offset + r.bytes.length ∧
        s.recorder.cursor.offset + r.bytes.length < 240 then 0
    else s.capture.read a := by
  have hinside : s.recorder.cursor.offset + r.bytes.length ≤ 256 := by omega
  have hfirst := wf_writeLeaf hwf s.recorder.cursor.leaf hinside
  unfold recordWritten Rec.length Config.recordArea
  dsimp only
  by_cases hmarker : s.recorder.cursor.offset + r.bytes.length < 240
  · rw [if_pos hmarker, read_writeLeaf hfirst _ (by rw [List.length_singleton]; omega),
      read_writeLeaf hwf _ hinside, List.length_singleton]
    by_cases ha : a = 256 * s.recorder.cursor.leaf.toNat + s.recorder.cursor.offset + r.bytes.length
    · rw [if_pos (by omega), if_neg (by omega), if_pos ⟨ha, hmarker⟩, ha]
      simp [Nat.add_assoc]
    · rw [if_neg (by omega)]
      refine if_congr Iff.rfl rfl ?_
      rw [if_neg (fun h => ha h.1)]
  · rw [if_neg hmarker, read_writeLeaf hwf _ hinside]
    refine if_congr Iff.rfl rfl ?_
    rw [if_neg (fun h => hmarker h.2)]

/-- The record's bytes stand at the offset, with the end marker behind them if there is room for it (R93, R119). -/
theorem placed_of_capture_eq {t : State} (h : t.capture = (recordWritten r s).capture) : Placed r.bytes s t := by
  refine ⟨fun i => ?_, fun hmarker => ?_, fun a ha => ?_⟩
  · have hi := i.isLt
    rw [leafByte_congr h]
    show (recordWritten r s).capture.read (256 * s.recorder.cursor.leaf.toNat + (s.recorder.cursor.offset + i)) = _
    rw [read_recordWritten hwf hfits, if_pos (by omega), ← Nat.add_assoc, Nat.add_sub_cancel_left,
      List.getD_eq_getElem _ _ hi]
    rfl
  · rw [leafByte_congr h]
    show (recordWritten r s).capture.read
      (256 * s.recorder.cursor.leaf.toNat + (s.recorder.cursor.offset + r.bytes.length)) = _
    rw [read_recordWritten hwf hfits, if_neg (by omega), if_pos (by omega)]
  · rw [h, read_recordWritten hwf hfits, if_neg (by omega), if_neg (by omega)]

/-- A record that fits is placed (R119). -/
theorem places_placeRecord : Places r.bytes s (placeRecord r s) := by
  have hcapture : (placeRecord r s).capture = (recordWritten r s).capture := by rw [placeRecord_eq]; simp
  refine ⟨?_, placed_of_capture_eq hwf hfits hcapture, ?_⟩
  · rw [placeRecord_eq]
    exact counted_congr (counted_offerCount_self 40 _) rfl rfl rfl
  · obtain ⟨counters, raised, h⟩ := offerCount_shape 40 { s with
      capture := (recordWritten r s).capture
      recorder := { s.recorder with
        cursor := { s.recorder.cursor with offset := s.recorder.cursor.offset + r.length }
        records := s.recorder.records + 1 } }
    rw [placeRecord_eq, h]
    rfl

end

theorem dropRecord_eq (s : State) : dropRecord s = offerCount 42 { s with
    alerts := { s.alerts with raised := s.alerts.raised ||| 8 }
    capture := (writeLeaf s.recorder.cursor.leaf 244 (leBytes (satInc (droppedOf s s.recorder.cursor.leaf)) 2)
      s).capture } := by
  unfold dropRecord
  dsimp only
  rw [raise_offerCount]
  rfl

/-- At an occupied leaf a record is dropped (R121). -/
theorem drops_dropRecord {s : State} (hwf : s.capture.wf 65536) : Drops s (dropRecord s) := by
  have hlength : 244 + (leBytes (satInc (droppedOf s s.recorder.cursor.leaf)) 2).length ≤ 256 := by
    rw [length_leBytes]; omega
  have hcapture : (dropRecord s).capture = (writeLeaf s.recorder.cursor.leaf 244
      (leBytes (satInc (droppedOf s s.recorder.cursor.leaf)) 2) s).capture := by rw [dropRecord_eq]; simp
  refine ⟨?_, ⟨fun i => ?_, fun a ha => ?_⟩, ?_⟩
  · rw [dropRecord_eq]
    exact counted_congr (counted_offerCount_self 42 _) rfl rfl rfl
  · rw [leafByte_congr hcapture, leafByte_writeLeaf hwf _ hlength, length_leBytes, satInc_eq, leBytes_two]
    dsimp only
    by_cases h4 : i.val = 4
    · rw [if_pos (by omega), if_pos h4, h4]
      rfl
    · by_cases h5 : i.val = 5
      · rw [if_pos (by omega), if_neg h4, if_pos h5, h5]
        rfl
      · rw [if_neg (by omega), if_neg h4, if_neg h5]
  · rw [hcapture, read_writeLeaf hwf _ hlength, length_leBytes, if_neg (by omega)]
  · obtain ⟨counters, raised, h⟩ := offerCount_shape 42 { s with
      alerts := { s.alerts with raised := s.alerts.raised ||| 8 }
      capture := (writeLeaf s.recorder.cursor.leaf 244 (leBytes (satInc (droppedOf s s.recorder.cursor.leaf)) 2)
        s).capture }
    rw [dropRecord_eq, h]

/-! ## The end of a walk -/

theorem recording_iff (s : State) : recording s = true ↔ s.units.recorder = .running := by
  simp [recording, beq_eq_decide]

theorem endWalk_eq (entry : BitVec 6) (s : State) : endWalk entry s = walkEnded entry s := by
  unfold endWalk walkEnded
  simp only [recording_iff]

theorem has_chainFault (a : Alerts) : a.has .chainFault = a.raised.getLsbD 0 := by
  unfold Alerts.has Cause.bit
  exact and_chainFault_bit_ne_zero a.raised

/-- At STOP the queue is discarded and STOP_REACHED raised (R125). -/
theorem stopsAt_stopAt (entry : BitVec 6) (s : State) : StopsAt entry s (stopAt entry s) := by
  unfold stopAt
  rw [endWalk_eq]
  exact discards_discardQueue (raise .stopReached (walkEnded entry s))

theorem raise_recordFault_eq (kind : FaultKind) (entry : BitVec 6) (s : State) :
    raise .chainFault (recordFault kind entry s) = { s with alerts := { s.alerts with
      raised := s.alerts.raised ||| 1
      faultKind := if s.alerts.raised.getLsbD 0 then s.alerts.faultKind else kind
      faultEntry := if s.alerts.raised.getLsbD 0 then s.alerts.faultEntry else entry } } := by
  unfold recordFault
  rw [has_chainFault]
  cases s.alerts.raised.getLsbD 0 <;> rfl

/-- At a fault the queue is discarded, CHAIN_FAULT raised, and the fault detail kept if one stands (R126, R152). -/
theorem faultsAt_faultAt (kind : FaultKind) (entry : BitVec 6) (s : State) :
    FaultsAt kind entry s (faultAt kind entry s) := by
  unfold faultAt
  rw [endWalk_eq, raise_recordFault_eq]
  exact discards_discardQueue { walkEnded entry s with alerts := { (walkEnded entry s).alerts with
      raised := (walkEnded entry s).alerts.raised ||| 1
      faultKind := if (walkEnded entry s).alerts.raised.getLsbD 0 then (walkEnded entry s).alerts.faultKind else kind
      faultEntry := if (walkEnded entry s).alerts.raised.getLsbD 0 then (walkEnded entry s).alerts.faultEntry
        else entry } }

/-! ## Arrival at a leaf -/

/-- The leaf with its end marker at byte 0 and an open seal (R93, R101, R123). -/
def leafOpened (leaf : Byte) (notify : Bool) (s : State) : State :=
  writeLeaf leaf 240 (openSeal notify) (writeLeaf leaf 0 [0] s)

@[simp] theorem length_openSeal (notify : Bool) : (openSeal notify).length = 16 := rfl

theorem wf_leafOpened {s : State} (hwf : s.capture.wf 65536) (leaf : Byte) (notify : Bool) :
    (leafOpened leaf notify s).capture.wf 65536 := by
  unfold leafOpened
  exact wf_writeLeaf (wf_writeLeaf hwf leaf (by rw [List.length_singleton]; omega)) leaf (by rw [length_openSeal])

/-- A leaf is entered (R123). -/
theorem entered_of_capture_eq {s t : State} (hwf : s.capture.wf 65536) {leaf : Byte} {notify : Bool}
    (h : t.capture = (leafOpened leaf notify s).capture) : Entered leaf notify s t := by
  have hmarker : 0 + [(0 : Byte)].length ≤ 256 := by rw [List.length_singleton]; omega
  have hseal : 240 + (openSeal notify).length ≤ 256 := by rw [length_openSeal]
  have hfirst := wf_writeLeaf hwf leaf hmarker
  have hbyte (o : Nat) := leafByte_writeLeaf hfirst leaf hseal o
  refine ⟨?_, fun i => ?_, fun a hzero ha => ?_⟩
  · rw [leafByte_congr h, leafOpened, hbyte, length_openSeal, if_neg (by omega), leafByte_writeLeaf hwf leaf hmarker,
      List.length_singleton, if_pos (by omega)]
    rfl
  · rw [leafByte_congr h, leafOpened, hbyte, length_openSeal, if_pos (by omega), openSeal_eq, Nat.add_sub_cancel_left]
    fin_cases i <;> cases notify <;> rfl
  · rw [h, leafOpened, read_writeLeaf hfirst leaf hseal, length_openSeal, if_neg (by omega),
      read_writeLeaf hwf leaf hmarker, List.length_singleton, if_neg (by omega)]

/-- The writer is blocked on a sealed leaf (R123). -/
theorem arrive_of_sealed {entry : BitVec 6} {leaf : Byte} {s : State} (h : isSealed s leaf = true) :
    arrive entry leaf s = { s with recorder := { s.recorder with
      cursor := { entry := entry, leaf := leaf, offset := 0, placed := true, blocked := true } } } := by
  unfold arrive leafEntry
  dsimp only
  rw [if_pos (by exact h)]

/-- Every other leaf is entered (R123). -/
theorem arrive_of_open {entry : BitVec 6} {leaf : Byte} {s : State} (h : isSealed s leaf = false) :
    arrive entry leaf s = { s with
      capture := (leafOpened leaf ((leafByte s leaf 240).getLsbD 1 || (entryByte s.directory entry 3).getLsbD 0)
        s).capture
      recorder := { s.recorder with
        cursor := { entry := entry, leaf := leaf, offset := 0, placed := true, blocked := false }, records := 0 } } := by
  unfold arrive leafEntry
  dsimp only
  rw [if_neg (by rw [Bool.not_eq_true]; exact h)]
  rfl

/-- An arrival blocks the writer or enters the leaf (R123, R124). -/
theorem arrives_arrive {s : State} (hwf : s.capture.wf 65536) (entry : BitVec 6) (leaf : Byte) :
    Arrives entry leaf s (arrive entry leaf s) := by
  have hsealed : isSealed s leaf = (leafByte s leaf 240).getLsbD 0 := rfl
  unfold Arrives
  dsimp only
  rw [← hsealed]
  cases h : isSealed s leaf with
  | true =>
    rw [arrive_of_sealed h]
    exact ⟨fun _ => rfl, (fun h => absurd h (by decide)), rfl⟩
  | false =>
    rw [arrive_of_open h]
    generalize hopened : (leafOpened leaf _ s).capture = opened
    exact ⟨fun h => absurd h (by decide), fun _ => entered_of_capture_eq hwf hopened.symm, rfl⟩

end Sys2Proof.Machine
end

section
/-! SUPPORT. Resolution and advance, a record in the writer's hand and the drain as the relations of the statements (R118
to R126), and what they keep of the writer's place. -/

namespace Sys2Proof.Machine

open Sys2Proof.Safety

/-! ## Resolution -/

/-- What a whole byte says of an entry (R102). -/
theorem entryKind_eq (d : Memory) (i : BitVec 6) : entryKind d i =
    if entryByte d i 0 = 1 then .store else if entryByte d i 0 = 2 then .link
    else if entryByte d i 0 = 3 then .stop else .void := by
  unfold entryKind
  simp only [← BitVec.toNat_inj]
  split <;> simp_all

/-- The entry whose kind decides: the target of a LINK, and the entry itself otherwise (R124). -/
def followed (d : Memory) (i : BitVec 6) : BitVec 6 :=
  if entryByte d i 0 = 2 then (entryByte d i 1).setWidth 6 else i

theorem runInRange_iff (d : Memory) (i : BitVec 6) :
    runInRange d i = true ↔ (entryByte d i 1).toNat + (entryByte d i 2).toNat + 1 ≤ 256 := by
  simp [runInRange, runEnd]

/-- Resolution by the followed entry alone (R124). -/
theorem resolveEntry_eq (d : Memory) (i : BitVec 6) : resolveEntry d i =
    if entryByte d (followed d i) 0 = 1 then
      if (entryByte d (followed d i) 1).toNat + (entryByte d (followed d i) 2).toNat + 1 ≤ 256
      then .arrive (followed d i) else .fault .range
    else if entryByte d (followed d i) 0 = 2 then .fault .linkChain
    else if entryByte d (followed d i) 0 = 3 then .stop else .fault .void := by
  unfold resolveEntry followed linkTarget
  simp only [entryKind_eq, ← runInRange_iff]
  by_cases hlink : entryByte d i 0 = 2
  · rw [if_pos hlink, if_neg (by rw [hlink]; decide), if_pos hlink]
    dsimp only
    split_ifs <;> rfl
  · rw [if_neg hlink, if_neg hlink]
    split_ifs <;> rfl

/-! ## The advance -/

section
variable {s : State} (hwf : s.capture.wf 65536)
include hwf

/-- The cursor advances as R124 says. -/
theorem advances_advance : Advances s (advance s) := by
  have hresolve := resolveEntry_eq s.directory (s.recorder.cursor.entry + 1)
  unfold Advances advance
  unfold followed at hresolve
  dsimp only
  have hnext : s.recorder.cursor.leaf.toNat + 1 < runEnd s.directory s.recorder.cursor.entry ↔
      s.recorder.cursor.leaf.toNat < (entryByte s.directory s.recorder.cursor.entry 1).toNat +
        (entryByte s.directory s.recorder.cursor.entry 2).toNat := by
    unfold runEnd
    omega
  rw [if_congr hnext rfl rfl]
  by_cases hrun : s.recorder.cursor.leaf.toNat < (entryByte s.directory s.recorder.cursor.entry 1).toNat +
        (entryByte s.directory s.recorder.cursor.entry 2).toNat
  · rw [if_pos hrun, if_pos hrun]
    exact arrives_arrive hwf _ _
  rw [if_neg hrun, if_neg hrun]
  by_cases hlast : s.recorder.cursor.entry = 63
  · rw [if_pos hlast, if_pos hlast]
    exact faultsAt_faultAt _ _ s
  rw [if_neg hlast, if_neg hlast, hresolve]
  clear hresolve
  generalize (if entryByte s.directory (s.recorder.cursor.entry + 1) 0 = 2
    then (entryByte s.directory (s.recorder.cursor.entry + 1) 1).setWidth 6
    else s.recorder.cursor.entry + 1) = e
  by_cases hstore : entryByte s.directory e 0 = 1
  · rw [if_pos hstore, if_pos hstore]
    by_cases hrange : (entryByte s.directory e 1).toNat + (entryByte s.directory e 2).toNat + 1 ≤ 256
    · rw [if_pos hrange, if_pos hrange]
      exact arrives_arrive hwf _ _
    · rw [if_neg hrange, if_neg hrange]
      exact faultsAt_faultAt _ _ s
  rw [if_neg hstore, if_neg hstore]
  by_cases hlink : entryByte s.directory e 0 = 2
  · rw [if_pos hlink, if_pos hlink]
    exact faultsAt_faultAt _ _ s
  rw [if_neg hlink, if_neg hlink]
  by_cases hstop : entryByte s.directory e 0 = 3
  · rw [if_pos hstop, if_pos hstop]
    exact stopsAt_stopAt _ s
  · rw [if_neg hstop, if_neg hstop]
    exact faultsAt_faultAt _ _ s

end

/-- Every advance leaves the offset at 0 (R123, R125, R126). -/
theorem advance_offset (s : State) : (advance s).recorder.cursor.offset = 0 := by
  have harrive (entry : BitVec 6) (leaf : Byte) : (arrive entry leaf s).recorder.cursor.offset = 0 := by
    unfold arrive leafEntry
    dsimp only
    split_ifs <;> rfl
  have hended (t : State) (h : t.recorder.cursor.offset = 0) : (discardQueue t).recorder.cursor.offset = 0 := by
    unfold discardQueue
    simpa using h
  unfold advance stopAt faultAt recordFault
  dsimp only
  (repeat' split)
  all_goals first | exact harrive _ _ | exact hended _ rfl

theorem fits_iff (r : Rec) (s : State) : fits r s = true ↔ s.recorder.cursor.offset + r.bytes.length ≤ 240 := by
  unfold fits Rec.length Config.recordArea
  exact decide_eq_true_iff

/-! ## What keeps capture memory in its canonical form -/

section
variable {s : State} (hwf : s.capture.wf 65536)
include hwf

theorem wf_arrive (entry : BitVec 6) (leaf : Byte) : (arrive entry leaf s).capture.wf 65536 := by
  cases h : isSealed s leaf with
  | true =>
    rw [arrive_of_sealed h]
    exact hwf
  | false =>
    rw [arrive_of_open h]
    dsimp only
    exact wf_leafOpened hwf _ _

theorem wf_advance : (advance s).capture.wf 65536 := by
  unfold advance
  dsimp only
  (repeat' split)
  all_goals first | exact wf_arrive hwf _ _ | simpa using hwf

/-- Sealing keeps the form whatever the offset: past the record area there is nothing to fill. -/
theorem wf_writeSeal : (writeSeal s).capture.wf 65536 := by
  have hcapture : (writeSeal s).capture = (sealWritten s).capture := by rw [writeSeal_eq]; simp
  have hfilled : (leafFilled s).capture.wf 65536 := by
    by_cases hoffset : s.recorder.cursor.offset ≤ 240
    · exact leafFilled_wf hwf hoffset
    · unfold leafFilled
      rw [Nat.sub_eq_zero_of_le (by omega)]
      exact hwf
  rw [hcapture, sealWritten_capture]
  exact wf_writeLeaf hfilled _ (by rw [length_ownSeal])

theorem wf_sealLeaf : (sealLeaf s).capture.wf 65536 := wf_advance (wf_writeSeal hwf)

theorem wf_dropRecord : (dropRecord s).capture.wf 65536 := by
  rw [dropRecord_eq]
  simpa using wf_writeLeaf hwf _ (by rw [length_leBytes]; omega)

theorem wf_placeRecord {r : Rec} (hfits : s.recorder.cursor.offset + r.bytes.length ≤ 240) :
    (placeRecord r s).capture.wf 65536 := by
  rw [placeRecord_eq]
  simpa using wf_recordWritten hwf hfits

omit hwf in
/-- In a leaf just entered every record fits (R119). -/
theorem fits_sealLeaf (r : Rec) : (sealLeaf s).recorder.cursor.offset + r.bytes.length ≤ 240 := by
  have hzero : (sealLeaf s).recorder.cursor.offset = 0 := advance_offset _
  have hlength := (length_bytes r).2.2
  omega

theorem wf_handleRecord (r : Rec) : (handleRecord r s).capture.wf 65536 := by
  unfold handleRecord
  dsimp only
  split_ifs with hplaced hblocked hfits hended hoccupied
  · simpa using hwf
  · exact wf_dropRecord hwf
  · exact wf_placeRecord hwf ((fits_iff r s).1 hfits)
  · simpa using wf_sealLeaf hwf
  · exact wf_dropRecord (wf_sealLeaf hwf)
  · exact wf_placeRecord (wf_sealLeaf hwf) (fits_sealLeaf r)

end

theorem wf_drainList (l : List Rec) {s : State} (hwf : s.capture.wf 65536) : (drainList l s).capture.wf 65536 := by
  induction l generalizing s with
  | nil => exact hwf
  | cons r rest ih =>
    have hhandled := wf_handleRecord (s := { s with recorder := { s.recorder with queue := rest } }) hwf r
    rw [drainList]
    dsimp only
    split_ifs
    · exact ih hhandled
    · exact hhandled

/-- The drain keeps capture memory in its canonical form. -/
theorem wf_drain {s : State} (hwf : s.capture.wf 65536) : (drain s).capture.wf 65536 := wf_drainList _ hwf

/-! ## A record in hand, and the drain -/

theorem handleRecord_offset (r : Rec) {s : State} (h : s.recorder.cursor.offset ≤ 240) :
    (handleRecord r s).recorder.cursor.offset ≤ 240 := by
  unfold handleRecord
  dsimp only
  split_ifs with hplaced hblocked hfits hended hoccupied
  · unfold discardQueue
    simpa using h
  · rw [dropRecord_eq]
    simpa using h
  · rw [placeRecord_eq]
    simpa [Rec.length] using (fits_iff r s).1 hfits
  · have hzero : (sealLeaf s).recorder.cursor.offset = 0 := advance_offset _
    simp [hzero]
  · have hzero : (sealLeaf s).recorder.cursor.offset = 0 := advance_offset _
    rw [dropRecord_eq]
    simp [hzero]
  · have hzero : (sealLeaf s).recorder.cursor.offset = 0 := advance_offset _
    have hlength := (length_bytes r).2.2
    rw [placeRecord_eq]
    simp [hzero, Rec.length]
    omega

/-- The writer handles a record in hand as R118 to R126 say. -/
theorem handles_handleRecord (r : Rec) {s : State} (hwf : s.capture.wf 65536)
    (hoffset : s.recorder.cursor.offset ≤ 240) (hplaced : s.recorder.cursor.placed = true) :
    Handles r s (handleRecord r s) := by
  unfold Handles handleRecord
  dsimp only
  simp only [hplaced, Bool.not_true, Bool.false_eq_true, if_false, fits_iff]
  by_cases hblocked : s.recorder.cursor.blocked = true
  · rw [if_pos hblocked, if_pos hblocked]
    exact drops_dropRecord hwf
  rw [if_neg hblocked, if_neg hblocked]
  by_cases hroom : s.recorder.cursor.offset + r.bytes.length ≤ 240
  · rw [if_pos hroom, if_pos hroom]
    exact places_placeRecord hwf hroom
  rw [if_neg hroom, if_neg hroom]
  have hsealed := wf_sealLeaf hwf
  refine ⟨writeSeal s, sealLeaf s, seals_writeSeal hwf hoffset, advances_advance (wf_writeSeal hwf), ?_⟩
  cases hwalks : (sealLeaf s).recorder.cursor.placed with
  | false =>
    have hempty := sealLeaf_queue s hwalks
    simp only [Bool.not_false, if_true]
    obtain ⟨counters, raised, hcounted⟩ := offerCount_shape 43 (sealLeaf s)
    refine ⟨countedTimes_offerCounts 43 1 (sealLeaf s), ?_⟩
    rw [hcounted, ← hempty]
  | true =>
    simp only [Bool.not_true, Bool.false_eq_true, Bool.true_eq_false, if_false]
    split_ifs
    · exact drops_dropRecord hsealed
    · exact places_placeRecord hsealed (fits_sealLeaf r)

/-- The drain record by record (R118). -/
theorem drains_drainList (l : List Rec) {s : State} (hwf : s.capture.wf 65536)
    (hoffset : s.recorder.cursor.offset ≤ 240) (hplaced : s.recorder.cursor.placed = true ∨ l = []) :
    Drains l s (drainList l s) := by
  induction l generalizing s with
  | nil => exact rfl
  | cons r rest ih =>
    have hstands : s.recorder.cursor.placed = true := hplaced.resolve_right (List.cons_ne_nil _ _)
    refine ⟨handleRecord r { s with recorder := { s.recorder with queue := rest } },
      handles_handleRecord r hwf hoffset hstands, ?_⟩
    rw [drainList]
    dsimp only
    split_ifs with hgoes
    · exact ih (wf_handleRecord (s := { s with recorder := { s.recorder with queue := rest } }) hwf r)
        (handleRecord_offset r (s := { s with recorder := { s.recorder with queue := rest } }) hoffset) (Or.inl hgoes)
    · rfl

/-- The drain of the queue from a state whose writer is in order (R110, R118). -/
theorem drains_drain {s : State} (h : WriterReady s) : Drains s.recorder.queue s (drain s) := by
  obtain ⟨hwf, hoffset, -, hunplaced⟩ := h
  refine drains_drainList _ hwf hoffset ?_
  cases hplaced : s.recorder.cursor.placed with
  | true => exact Or.inl rfl
  | false => exact Or.inr (hunplaced hplaced)

end Sys2Proof.Machine
end

section
/-! SUPPORT. The commands of the recorder that write capture memory (chapter 7): RECCTL out of Off, RELEASE, NOTEMARK,
SEALNOW and MARK, in the writer's own terms. -/

namespace Sys2Proof.Machine

open Sys2Proof.Safety

/-! ## RECCTL out of Off -/

theorem toNat_startOperand (i : BitVec 6) : (i.setWidth 8).toNat = i.toNat := by
  rw [BitVec.toNat_setWidth]
  omega

theorem setWidth_startOperand (i : BitVec 6) : (i.setWidth 8).setWidth 6 = i := by
  ext j
  simp

/-- The start entry that RECCTL names resolves to a leaf (R106). -/
theorem startEntry_of_arrive {i e : BitVec 6} {s : State} (h : resolveEntry s.directory i = .arrive e) :
    startEntry (i.setWidth 8) s = some e := by
  unfold startEntry
  simp only [toNat_startOperand, i.isLt, if_true, setWidth_startOperand, h]

/-- The start entry that RECCTL names resolves to no leaf (R106). -/
theorem startEntry_of_not_arrive {i : BitVec 6} {s : State} (h : ∀ e, resolveEntry s.directory i ≠ .arrive e) :
    startEntry (i.setWidth 8) s = none := by
  unfold startEntry
  rw [toNat_startOperand, if_pos i.isLt, setWidth_startOperand]
  cases hresolved : resolveEntry s.directory i with
  | arrive e => exact absurd hresolved (h e)
  | stop => rfl
  | fault kind => rfl

/-- The start entry resolves to a STORE in range (R106). -/
abbrev Resolves (d : Memory) (i : BitVec 6) : Prop :=
  (entryByte d i 0 = 1 ∨ entryByte d i 0 = 2) ∧ entryByte d (followed d i) 0 = 1 ∧
    (entryByte d (followed d i) 1).toNat + (entryByte d (followed d i) 2).toNat + 1 ≤ 256

theorem startEntry_of_resolves {i : BitVec 6} {s : State} (h : Resolves s.directory i) :
    startEntry (i.setWidth 8) s = some (followed s.directory i) := by
  obtain ⟨-, hstore, hrange⟩ := h
  exact startEntry_of_arrive (by rw [resolveEntry_eq, if_pos hstore, if_pos hrange])

theorem startEntry_of_not_resolves {i : BitVec 6} {s : State} (h : ¬Resolves s.directory i) :
    startEntry (i.setWidth 8) s = none := by
  have hkind : entryByte s.directory (followed s.directory i) 0 = 1 →
      entryByte s.directory i 0 = 1 ∨ entryByte s.directory i 0 = 2 := by
    unfold followed
    split_ifs with hlink
    · exact fun _ => Or.inr hlink
    · exact Or.inl
  refine startEntry_of_not_arrive fun e => ?_
  rw [resolveEntry_eq]
  by_cases hstore : entryByte s.directory (followed s.directory i) 0 = 1
  · rw [if_pos hstore, if_neg fun hrange => h ⟨hkind hstore, hstore, hrange⟩]
    exact Resolution.noConfusion
  · rw [if_neg hstore]
    split_ifs <;> exact Resolution.noConfusion

/-- RECCTL's target operand for Ready and for Running. -/
def targetState (target : Byte) : UnitState := if target = 3 then .running else .ready

theorem targetOf_of_moving {target : Byte} (h : target = 2 ∨ target = 3) : targetOf target = some (targetState target) := by
  rcases h with rfl | rfl <;> rfl

theorem startIsOperand_of_moving {target : Byte} {s : State} (hoff : s.units.recorder = .off) :
    startIsOperand (targetState target) s = true := by
  unfold startIsOperand targetState
  rw [hoff]
  split_ifs <;> rfl

theorem recctlOperands_of_moving {target start : Byte} {s : State} (h : target = 2 ∨ target = 3)
    (hoff : s.units.recorder = .off) : recctlOperands target start s = (startEntry start s).isSome := by
  unfold recctlOperands
  rw [targetOf_of_moving h]
  dsimp only
  rw [startIsOperand_of_moving hoff]
  simp

theorem recctlStateFail_of_off {target : Byte} {s : State} (hoff : s.units.recorder = .off) :
    recctlStateFail target s = none := by
  unfold recctlStateFail
  rw [hoff]
  cases targetOf target <;> rfl

theorem recctlEffect_of_start {target start : Byte} {s : State} {e : BitVec 6} (h : target = 2 ∨ target = 3)
    (hoff : s.units.recorder = .off) (hstart : startEntry start s = some e) :
    recctlEffect target start s = recorderStarts e (targetState target) s := by
  unfold recctlEffect
  rw [targetOf_of_moving h, hoff]
  rcases h with rfl | rfl
  · simp only [targetState, hstart]
    rfl
  · simp only [targetState, hstart]
    rfl

/-! ## RELEASE and NOTEMARK -/

theorem leafEntry_eq_arrive (s : State) :
    leafEntry s = arrive s.recorder.cursor.entry s.recorder.cursor.leaf s := rfl

theorem sealReads_writeLeaf {s : State} (hwf : s.capture.wf 65536) (leaf : Byte) {bytes : List Byte}
    (hlength : bytes.length ≤ 16) {shown : Fin 16 → Byte} (hshown : ∀ i : Fin 16, shown i =
      if i.val < bytes.length then bytes.getD i.val 0 else leafByte s leaf (240 + i.val)) :
    SealReads leaf shown s (writeLeaf leaf 240 bytes s) := by
  refine ⟨fun i => ?_, fun a ha => ?_⟩
  · rw [leafByte_writeLeaf hwf leaf (by omega), hshown, Nat.add_sub_cancel_left]
    exact if_congr (by omega) rfl rfl
  · rw [read_writeLeaf hwf leaf (by omega), if_neg (by omega)]

end Sys2Proof.Machine

open Sys2Proof Sys2Proof.Machine Sys2Proof.Safety

/-- Settles O37: the start entry resolves to the followed entry or to none, and the move out of Off is the arrival at
its first leaf. -/
theorem recctlStartsOrRefuses : Obligations.RecctlStartsOrRefuses := by
  unfold Obligations.RecctlStartsOrRefuses
  intro target i s hpass hoff htarget kind e resolves leaf occupied
  refine ⟨fun hresolves => ?_, fun hresolves hwf => ?_⟩
  · refine refuses_operand rfl hpass ?_
    rw [operandsInRange_recctl, recctlOperands_of_moving htarget hoff, startEntry_of_not_resolves hresolves]
    rfl
  · have hstart : startEntry (i.setWidth 8) s = some e := startEntry_of_resolves hresolves
    have hoperands : operandsInRange (.recctl target (i.setWidth 8)) s = true := by
      rw [operandsInRange_recctl, recctlOperands_of_moving htarget hoff, hstart]
      rfl
    have haccept := accepts_command (c := .recctl target (i.setWidth 8)) rfl rfl hpass hoperands
      (recctlStateFail_of_off hoff)
    rw [effectOf_recctl, recctlEffect_of_start htarget hoff hstart] at haccept
    obtain ⟨hoccupied, hentered, heq⟩ := arrives_arrive hwf e leaf
    refine ⟨recorderStarts e (targetState target) s, haccept, ?_, hoccupied, hentered⟩
    have hrunning : targetState target = .running ↔ target = 3 := by
      rcases htarget with rfl | rfl <;> decide
    unfold recorderStarts
    dsimp only
    rw [show entryByte s.directory e 1 = leaf from rfl, heq]
    dsimp only
    rw [if_congr hrunning rfl rfl]
    rfl

/-- Settles O38: each command writes the seal's sixteen bytes or byte 240 alone, and a writer blocked on the released
leaf enters it. -/
theorem releaseAndNotemark : Obligations.ReleaseAndNotemark := by
  unfold Obligations.ReleaseAndNotemark
  intro leaf s hwf c bySeal
  have haccept (hpass : passesFour (.release leaf) s = true) (hfree : beingWritten s leaf = false) {t : State}
      (heffect : releaseEffect leaf s = t) : Accepts (.release leaf) s t :=
    heffect ▸ accepts_command (c := .release leaf) rfl rfl hpass rfl
      (show (if beingWritten s leaf then some Result.state else none) = none by rw [hfree]; rfl)
  have hsealed : isSealed s leaf = bySeal := rfl
  have hzeros : (List.replicate 16 (0 : Byte)).length ≤ 16 := by rw [List.length_replicate]
  have hshown (i : Fin 16) : (0 : Byte) = if i.val < (List.replicate 16 (0 : Byte)).length
      then (List.replicate 16 (0 : Byte)).getD i.val 0 else leafByte s leaf (240 + i.val) := by
    fin_cases i <;> rfl
  have hreads : SealReads leaf (fun _ => 0) s (writeLeaf leaf 240 (List.replicate 16 0) s) :=
    sealReads_writeLeaf hwf leaf hzeros hshown
  refine ⟨fun hpass hunsealed hwriting => ?_, fun hpass hseal helsewhere => ?_,
    fun hpass hseal hplaced hblocked hleaf => ?_, fun hpass => ?_⟩
  · refine haccept hpass ?_ ?_
    · by_cases hplaced : s.recorder.cursor.placed = true ∧ s.recorder.cursor.blocked = false
      · have hne : s.recorder.cursor.leaf ≠ leaf := fun h => hwriting ⟨hplaced.1, hplaced.2, h⟩
        simp [beingWritten, hne]
      · unfold beingWritten
        cases hp : s.recorder.cursor.placed <;> cases hb : s.recorder.cursor.blocked <;> simp_all
    · unfold releaseEffect
      rw [hsealed, hunsealed]
      rfl
  · have hother : (s.recorder.cursor.placed && s.recorder.cursor.leaf == leaf) = false := by
      cases hp : s.recorder.cursor.placed with
      | false => rfl
      | true => simpa using helsewhere hp
    refine ⟨_, haccept hpass ?_ ?_, ?_, hreads⟩
    · unfold beingWritten
      rw [Bool.and_right_comm, hother]
      rfl
    · unfold releaseEffect
      rw [hsealed, hseal, if_pos rfl, Bool.and_right_comm, hother]
      rfl
    · rfl
  · obtain ⟨hzero, houtside⟩ := hreads
    have hbyte : leafByte (writeLeaf leaf 240 (List.replicate 16 0) s) leaf 240 = 0 := hzero 0
    have hcleared : (writeLeaf leaf 240 (List.replicate 16 0) s).capture.wf 65536 :=
      wf_writeLeaf hwf leaf (by rw [List.length_replicate])
    have heffect : releaseEffect leaf s = arrive c.entry leaf (writeLeaf leaf 240 (List.replicate 16 0) s) := by
      unfold releaseEffect
      rw [hsealed, hseal, if_pos rfl]
      simp only [show s.recorder.cursor.placed = true from hplaced, show s.recorder.cursor.blocked = true from hblocked,
        show s.recorder.cursor.leaf = leaf from hleaf, Bool.true_and, BEq.rfl, if_true]
      rw [leafEntry_eq_arrive]
      dsimp only [writeLeaf]
      rw [show s.recorder.cursor.leaf = leaf from hleaf]
    have hwriting : beingWritten s leaf = false := by
      unfold beingWritten
      rw [show s.recorder.cursor.blocked = true from hblocked, Bool.not_true, Bool.and_false, Bool.false_and]
    have hrest : writeLeaf leaf 240 (List.replicate 16 0) s =
        { s with capture := (writeLeaf leaf 240 (List.replicate 16 0) s).capture } := rfl
    generalize writeLeaf leaf 240 (List.replicate 16 0) s = cleared at *
    obtain ⟨-, hentered, heq⟩ := arrives_arrive hcleared c.entry leaf
    rw [hbyte] at hentered heq
    obtain ⟨hmarker, hopened, hkept⟩ := hentered rfl
    refine ⟨_, haccept hpass hwriting heffect, ?_, hmarker, ?_, fun a hfirst ha => ?_⟩
    · rw [heq]
      dsimp only
      rw [hrest]
      dsimp only
      rw [← hleaf, hplaced]
      rfl
    · rw [show cleared.directory = s.directory by rw [hrest]] at hopened
      exact hopened
    · rw [hkept a hfirst ha, houtside a ha]
  · have hlist : [leafByte s leaf 240 ||| 2].length ≤ 16 := by rw [List.length_singleton]; omega
    refine ⟨notemarkEffect leaf s, accepts_command (c := .notemark leaf) rfl rfl hpass rfl rfl, rfl,
      sealReads_writeLeaf hwf leaf hlist fun i => ?_⟩
    rw [List.length_singleton]
    by_cases hfirst : i.val = 0
    · rw [if_pos hfirst, if_pos (by omega), hfirst]
      rfl
    · rw [if_neg hfirst, if_neg (by omega)]
end

section
/-! SUPPORT. The bytes of the records (chapter 6), each kind written out. -/

namespace Sys2Proof.Machine

open Sys2Proof.Safety

theorem leBytes_four {w : Nat} (x : BitVec w) : leBytes x 4 = [byteAt x 0, byteAt x 1, byteAt x 2, byteAt x 3] :=
  leBytes_eq_map x 4

/-- Bytes 1 to 11 of a SNAPSHOT, written out (R95). -/
theorem snapFieldsBytes_eq (f : SnapFields) : f.bytes =
    [(f.missed.setWidth 8 <<< 4) ||| bitByte f.deferred 0, byteAt f.levels 0, byteAt f.levels 1, byteAt f.time 0,
      byteAt f.time 1, byteAt f.time 2, byteAt f.time 3, byteAt f.seq 0, byteAt f.seq 1, f.leaf,
      f.running.setWidth 8] := by
  unfold SnapFields.bytes
  rw [leBytes_two, leBytes_four, leBytes_two]
  rfl

theorem length_snapFields (f : SnapFields) : f.bytes.length = 11 := by
  rw [snapFieldsBytes_eq]
  rfl

/-- The values of an EXTENDED record stand in a row, four bytes each (R96). -/
theorem getD_values (values : List Word) {j i : Nat} (hj : j < values.length) (hi : i < 4) :
    (values.flatMap fun v => leBytes v 4).getD (4 * j + i) 0 = byteAt (values.getD j 0) i := by
  induction values generalizing j with
  | nil => exact absurd hj (Nat.not_lt_zero j)
  | cons v rest ih =>
    rw [List.flatMap_cons]
    cases j with
    | zero =>
      rw [List.getD_append _ _ _ _ (by rw [length_leBytes]; omega), Nat.mul_zero, Nat.zero_add, getD_leBytes v hi]
      rfl
    | succ j =>
      rw [List.getD_append_right _ _ _ _ (by rw [length_leBytes]; omega), length_leBytes,
        show 4 * (j + 1) + i - 4 = 4 * j + i by omega, ih (by simpa using hj)]
      rfl

theorem length_values (values : List Word) : (values.flatMap fun v => leBytes v 4).length = 4 * values.length := by
  induction values with
  | nil => rfl
  | cons v rest ih =>
    rw [List.flatMap_cons, List.length_append, ih, length_leBytes, List.length_cons]
    omega

/-- The flags of a snapshot: DEFERRED, and the missed count above bit 3 (R95). -/
theorem getLsbD_snapFlags (missed : BitVec 4) (deferred : Bool) (j : Nat) :
    ((missed.setWidth 8 <<< 4) ||| bitByte deferred 0).getLsbD j =
      ((decide (j < 8) && decide (4 ≤ j) && missed.getLsbD (j - 4)) || (deferred && decide (j = 0))) := by
  rw [BitVec.getLsbD_or, getLsbD_bitByte _ (by omega), BitVec.getLsbD_shiftLeft, BitVec.getLsbD_setWidth]
  congr 1
  by_cases h8 : j < 8 <;> by_cases h4 : j < 4
  · simp [h8, h4, show ¬4 ≤ j by omega]
  · simp [h8, h4, show 4 ≤ j by omega, show j - 4 < 8 by omega]
  · simp [h8]
  · simp [h8]

/-! ## The records without counters -/

theorem bytes_event (input : BitVec 4) (rising : Bool) (count : Half) (time : Word) :
    (Rec.event input rising count time).bytes = [0x32, BitVec.ofNat 8 (input.toNat + if rising then 16 else 0),
      byteAt count 0, byteAt count 1, byteAt time 0, byteAt time 1, byteAt time 2, byteAt time 3] := by
  have hedge : ∀ (x : BitVec 4) (b : Bool),
      x.setWidth 8 ||| bitByte b 4 = BitVec.ofNat 8 (x.toNat + if b then 16 else 0) := by decide
  rw [Rec.bytes, leBytes_two, leBytes_four, hedge]
  rfl

theorem bytes_mark (cls : Byte) (tag : Half) (time : Word) : (Rec.mark cls tag time).bytes =
    [0x42, cls, byteAt tag 0, byteAt tag 1, byteAt time 0, byteAt time 1, byteAt time 2, byteAt time 3] := by
  rw [Rec.bytes, leBytes_two, leBytes_four]
  rfl

theorem bytes_supervisor (fired : Bool) (tally e : Byte) (time : Word) : (Rec.supervisor fired tally e time).bytes =
    [0x52, if fired then 2 else 1, tally, e, byteAt time 0, byteAt time 1, byteAt time 2, byteAt time 3] := by
  rw [Rec.bytes, leBytes_four]
  rfl

theorem bytes_resume (host : Bool) (input : BitVec 4) (episode : Byte) (time : Word) :
    (Rec.resume host input episode time).bytes = [0x62, if host then 1 else 2, BitVec.ofNat 8 input.toNat, episode,
      byteAt time 0, byteAt time 1, byteAt time 2, byteAt time 3] := by
  have hinput : input.setWidth 8 = BitVec.ofNat 8 input.toNat := BitVec.eq_of_toNat_eq (by simp)
  rw [Rec.bytes, leBytes_four, hinput]
  rfl

theorem bytes_loss (count : Half) (time : Word) : (Rec.loss count time).bytes =
    [0x72, 0, byteAt count 0, byteAt count 1, byteAt time 0, byteAt time 1, byteAt time 2, byteAt time 3] := by
  rw [Rec.bytes, leBytes_two, leBytes_four]
  rfl

/-! ## Snapshots -/

/-- The counters of the slots, and the valid bits (R96). -/
def slotTail (s : State) : List Byte :=
  [bitsOf 8 ((slotNumbers s.recorder.config).map (counterRunning s)), BitVec.ofNat 8 s.recorder.config.k, 0, 0] ++
    ((slotNumbers s.recorder.config).map (counterAt s)).flatMap fun v => leBytes v 4

theorem length_slotNumbers {c : RecConfig} (h : c.k ≤ 8) : (slotNumbers c).length = c.k := by
  unfold slotNumbers
  simp [h]

theorem length_slotTail {s : State} (hk : s.recorder.config.k ≤ 8) :
    (slotTail s).length = 4 + 4 * s.recorder.config.k := by
  unfold slotTail
  rw [List.length_append, length_values, List.length_map, length_slotNumbers hk]
  rfl

/-- A snapshot's header byte (R94). -/
def snapHeaderByte (s : State) : Byte :=
  if s.recorder.config.extended then BitVec.ofNat 8 (0x24 + s.recorder.config.k) else 0x13

/-- A snapshot's bytes: the header, the eleven fields, and for EXTENDED the slots (R95, R96). -/
theorem bytes_snapshotRecord (deferred : Bool) (missed : BitVec 4) {s : State} (hk : s.recorder.config.k ≤ 8) :
    (snapshotRecord deferred missed s).bytes = snapHeaderByte s :: (snapFields deferred missed s).bytes ++
      if s.recorder.config.extended then slotTail s else [] := by
  have hvalues : extendedValues ((slotNumbers s.recorder.config).map (counterAt s)) =
      (slotNumbers s.recorder.config).map (counterAt s) := by
    unfold extendedValues
    exact List.take_of_length_le (by rw [List.length_map, length_slotNumbers hk]; exact hk)
  unfold snapshotRecord snapHeaderByte
  dsimp only
  cases s.recorder.config.extended with
  | false => simp [Rec.bytes]
  | true =>
    simp only [if_true, Rec.bytes, hvalues, List.length_map, length_slotNumbers hk]
    simp [slotTail, BitVec.ofNat_add]

/-- Counter `c` of the slot `j` (R105). -/
theorem getD_slotNumbers {c : RecConfig} (h : c.k ≤ 8) {j : Nat} (hj : j < c.k) :
    (slotNumbers c).getD j 0 = (c.slots[j]'(by omega)).toNat := by
  have hlength : j < (slotNumbers c).length := by rw [length_slotNumbers h]; exact hj
  rw [List.getD_eq_getElem _ _ hlength]
  unfold slotNumbers
  simp

theorem bank_bankOf (u : Units) (c : Fin 45) : u.bank (bankOf c) =
    if c.val < 16 then u.edge else if c.val < 32 then u.dwell else if c.val < 40 then u.link else u.tally := by
  unfold bankOf
  split_ifs <;> rfl

theorem counterRunning_eq (s : State) (c : Fin 45) : counterRunning s c.val = (s.units.bank (bankOf c) == .running) := by
  unfold counterRunning
  rw [dif_pos c.isLt]

theorem counterAt_eq (s : State) (c : Fin 45) : counterAt s c.val = s.counters.value[c] := by
  unfold counterAt
  rw [dif_pos c.isLt]
  rfl

theorem getLsbD_conditionedLevels (s : State) (n : Fin 16) :
    (conditionedLevels s).getLsbD n.val = s.inputs[n].level := by
  unfold conditionedLevels
  rw [getLsbD_bitsOf, decide_eq_true n.isLt, Bool.true_and, List.getD_eq_getElem _ _ (by simp)]
  simp

end Sys2Proof.Machine

open Sys2Proof Sys2Proof.Machine Sys2Proof.Safety

/-- Settles O43: the header and the eleven fields stand written out before the slots, and each slot's value at its
place in the row behind them. -/
theorem snapshotBytes : Obligations.SnapshotBytes := by
  unfold Obligations.SnapshotBytes
  intro deferred missed s hconfig bytes b k extended unitOf two four
  obtain ⟨-, hk, -, -⟩ := hconfig
  have hbytes : bytes = snapHeaderByte s :: (snapFields deferred missed s).bytes ++
      if s.recorder.config.extended then slotTail s else [] := bytes_snapshotRecord deferred missed hk
  have hfront (i : Nat) (hi : i < 12) :
      b i = (snapHeaderByte s :: (snapFields deferred missed s).bytes).getD i 0 := by
    show bytes.getD i 0 = _
    rw [hbytes, List.getD_append _ _ _ _ (by rw [List.length_cons, length_snapFields]; exact hi)]
  have hback (hextended : extended = true) (i : Nat) : b (12 + i) = (slotTail s).getD i 0 := by
    have hset : s.recorder.config.extended = true := hextended
    show bytes.getD (12 + i) 0 = _
    rw [hbytes, List.getD_append_right _ _ _ _ (by rw [List.length_cons, length_snapFields]; omega), hset, if_pos rfl,
      List.length_cons, length_snapFields, Nat.add_sub_cancel_left]
  rw [snapFieldsBytes_eq] at hfront
  have htwo (x : Half) : two x = [byteAt x 0, byteAt x 1] := rfl
  have hfour (x : Word) : four x = [byteAt x 0, byteAt x 1, byteAt x 2, byteAt x 3] := rfl
  refine ⟨?_, ?_, ?_, ?_, ?_, fun n => ?_, fun i => ?_, ?_, ?_, fun u _ => ?_, ?_, fun hextended => ?_,
    fun input rising count time => ?_, fun cls tag time => ?_, fun fired tally e time => ?_,
    fun host input episode time => ?_, fun count time => ?_⟩
  case refine_13 => rw [bytes_event, htwo, hfour]; rfl
  case refine_14 => rw [bytes_mark, htwo, hfour]; rfl
  case refine_15 => rw [bytes_supervisor, hfour]; rfl
  case refine_16 => rw [bytes_resume, hfour]; rfl
  case refine_17 => rw [bytes_loss, htwo, hfour]; rfl
  · rw [hbytes, List.length_append, List.length_cons, length_snapFields]
    show _ = if s.recorder.config.extended = true then 16 + 4 * s.recorder.config.k else 12
    cases s.recorder.config.extended with
    | false => rfl
    | true =>
      rw [if_pos rfl, if_pos rfl, length_slotTail hk]
      omega
  · rw [hfront 0 (by omega)]
    rfl
  · rw [hfront 1 (by omega)]
    show ((missed.setWidth 8 <<< 4) ||| bitByte deferred 0).getLsbD 0 = _
    rw [getLsbD_snapFlags]
    simp
  · rw [hfront 1 (by omega)]
    refine extractLsb'_eq_of_getLsbD fun i hi => ?_
    show ((missed.setWidth 8 <<< 4) ||| bitByte deferred 0).getLsbD (1 + i) = _
    rw [getLsbD_snapFlags]
    simp
    omega
  · rw [hfront 1 (by omega)]
    refine extractLsb'_eq_of_getLsbD fun i hi => ?_
    show ((missed.setWidth 8 <<< 4) ||| bitByte deferred 0).getLsbD (4 + i) = _
    rw [getLsbD_snapFlags]
    simp
    omega
  · rw [hfront 3 (by omega), hfront 2 (by omega)]
    show (byteAt (conditionedLevels s) 1 ++ byteAt (conditionedLevels s) 0 : Half).getLsbD n.val = _
    rw [byteAt_append_two, getLsbD_conditionedLevels]
  · rw [hfront (4 + i) (by omega), show s.timebase.extractLsb' (8 * i.val) 8 = byteAt s.timebase i from rfl,
      ← byteAt_timestamp s i.isLt]
    fin_cases i <;> rfl
  · rw [hfront 9 (by omega), hfront 8 (by omega)]
    exact byteAt_append_two s.recorder.snapSeq
  · rw [hfront 10 (by omega)]
    rfl
  · rw [hfront 11 (by omega)]
    show ((runningBanks s.units).setWidth 8).getLsbD u.index = true ↔ _
    rw [BitVec.getLsbD_setWidth, getLsbD_runningBanks, beq_eq_decide]
    cases u <;> simp [Bank.index]
  · rw [hfront 11 (by omega)]
    refine extractLsb'_eq_of_getLsbD fun i hi => ?_
    show ((runningBanks s.units).setWidth 8).getLsbD (4 + i) = _
    simp
  · have hslot (j : Fin 8) (hj : j.val < k) (c : Fin 45) (hc : s.recorder.config.slots[j].toNat = c.val) :
        (slotNumbers s.recorder.config).getD j 0 = c.val := (getD_slotNumbers hk hj).trans hc
    have hvalid (j : Fin 8) : (b 12).getLsbD j =
        ((slotNumbers s.recorder.config).map (counterRunning s)).getD j.val false := by
      rw [hback hextended 0]
      show (bitsOf 8 _).getLsbD j.val = _
      rw [getLsbD_bitsOf, decide_eq_true j.isLt, Bool.true_and]
    refine ⟨hback hextended 1, hback hextended 2, hback hextended 3, fun j hj => ?_,
      fun j c hj hc => ⟨?_, fun i => ?_⟩⟩
    · rw [hvalid, List.getD_eq_default _ _ (by rw [List.length_map, length_slotNumbers hk]; exact hj)]
    · have hlt : j.val < (slotNumbers s.recorder.config).length := by rw [length_slotNumbers hk]; exact hj
      have hbank : s.units.bank (bankOf c) = unitOf c := bank_bankOf s.units c
      rw [hvalid, List.getD_eq_getElem _ _ (by rwa [List.length_map]), List.getElem_map,
        ← List.getD_eq_getElem _ 0 hlt, hslot j hj c hc, counterRunning_eq, hbank, beq_eq_decide, decide_eq_true_iff]
    · have hlt : j.val < ((slotNumbers s.recorder.config).map (counterAt s)).length := by
        rw [List.length_map, length_slotNumbers hk]
        exact hj
      rw [show 16 + 4 * j.val + i.val = 12 + (4 + (4 * j.val + i.val)) by omega, hback hextended]
      unfold slotTail
      rw [List.getD_append_right _ _ _ _ (Nat.le_add_right 4 _)]
      show ((slotNumbers s.recorder.config).map (counterAt s) |>.flatMap fun v => leBytes v 4).getD
        (4 + (4 * j.val + i.val) - 4) 0 = _
      rw [Nat.add_sub_cancel_left, getD_values _ hlt i.isLt, List.getD_eq_getElem _ _ hlt, List.getElem_map,
        ← List.getD_eq_getElem _ 0 (by rwa [List.length_map] at hlt), hslot j hj c hc, counterAt_eq]
      rfl
end

section
/-! SUPPORT. MARK and SEALNOW (R117, R129): one record in hand, and where a seal leaves the cursor. -/

namespace Sys2Proof.Machine

open Sys2Proof.Safety

/-! ## One record offered and drained -/

theorem advance_queue_of_empty {s : State} (h : s.recorder.queue = []) : (advance s).recorder.queue = [] := by
  have harrive (entry : BitVec 6) (leaf : Byte) : (arrive entry leaf s).recorder.queue = [] := by
    unfold arrive leafEntry
    dsimp only
    split_ifs <;> exact h
  unfold advance stopAt faultAt
  dsimp only
  (repeat' split)
  all_goals first | exact harrive _ _ | rfl

theorem sealLeaf_queue_of_empty {s : State} (h : s.recorder.queue = []) : (sealLeaf s).recorder.queue = [] := by
  refine advance_queue_of_empty ?_
  rw [writeSeal_eq]
  simpa [sealWritten] using h

/-- A record in hand adds nothing to the queue. -/
theorem handleRecord_queue_of_empty (r : Rec) {s : State} (h : s.recorder.queue = []) :
    (handleRecord r s).recorder.queue = [] := by
  have hdrop (t : State) (ht : t.recorder.queue = []) : (dropRecord t).recorder.queue = [] := by
    rw [dropRecord_eq]
    simpa using ht
  have hplace (t : State) (ht : t.recorder.queue = []) : (placeRecord r t).recorder.queue = [] := by
    rw [placeRecord_eq]
    simpa using ht
  have hsealed := sealLeaf_queue_of_empty h
  unfold handleRecord
  dsimp only
  split_ifs
  · rfl
  · exact hdrop s h
  · exact hplace s h
  · simpa using hsealed
  · exact hdrop _ hsealed
  · exact hplace _ hsealed

/-- The drain of one record is that record in the writer's hand (R118). -/
theorem drain_of_single {r : Rec} {s : State} (h : s.recorder.queue = [r]) :
    drain s = handleRecord r { s with recorder := { s.recorder with queue := [] } } := by
  have hstays (t : State) (ht : t.recorder.queue = []) : drainList [] t = t := by
    rw [drainList, ← ht]
  unfold drain
  rw [h, drainList]
  dsimp only
  split_ifs
  · exact hstays _ (handleRecord_queue_of_empty r rfl)
  · rfl

theorem offer_of_nothing (r : Rec) {s : State} (h : NothingWaits s) :
    offer r s = { s with recorder := { s.recorder with queue := [r] } } := by
  obtain ⟨hqueue, hloss⟩ := h
  rw [offer_of_room (by rw [hqueue]; exact Nat.zero_lt_succ 7) hloss, hqueue, List.nil_append]

/-- Where nothing waits, the drain of one offered record is that record in the writer's hand (R112, R118). -/
theorem drain_offer_of_nothing (r : Rec) {s : State} (h : NothingWaits s) : drain (offer r s) = handleRecord r s := by
  have hoffer := offer_of_nothing r h
  have hself : { offer r s with recorder := { (offer r s).recorder with queue := [] } } = s := by
    rw [hoffer]
    dsimp only
    rw [← h.1]
  rw [drain_of_single (r := r) (by rw [hoffer]), hself]

theorem writerReady_offer {r : Rec} {s : State} (h : WriterReady s) (hrunning : s.units.recorder = .running) :
    WriterReady (offer r s) := by
  obtain ⟨hwf, hoffset, hplaced, -⟩ := h
  refine ⟨by simpa using hwf, by simpa using hoffset, by simpa using hplaced, fun hnot => ?_⟩
  have hstands : (offer r s).recorder.cursor.placed = true := by simpa using hplaced hrunning
  rw [hstands] at hnot
  exact absurd hnot (by decide)

/-! ## Where a seal leaves the cursor -/

theorem writeSeal_cursor (s : State) : (writeSeal s).recorder.cursor = s.recorder.cursor := by
  rw [writeSeal_eq]
  simp [sealWritten]

theorem writeSeal_countdown (s : State) : (writeSeal s).recorder.countdown = s.recorder.countdown := by
  rw [writeSeal_eq]
  simp [sealWritten]

theorem writeSeal_units (s : State) : (writeSeal s).units = s.units := by
  rw [writeSeal_eq]
  simp [sealWritten]

/-- A seal writes no fault detail and no CHAIN_FAULT. -/
theorem writeSeal_fault (s : State) : (writeSeal s).alerts.raised.getLsbD 0 = s.alerts.raised.getLsbD 0 ∧
    (writeSeal s).alerts.faultKind = s.alerts.faultKind ∧ (writeSeal s).alerts.faultEntry = s.alerts.faultEntry := by
  have hnotify : (sealWritten s).alerts.raised.getLsbD 0 = s.alerts.raised.getLsbD 0 := by
    unfold sealWritten
    dsimp only
    split_ifs <;> simp
  obtain ⟨counters, raised, hshape⟩ := offerCount_shape 44 (sealWritten s)
  rw [writeSeal_eq, offerCount_raised, hshape]
  refine ⟨?_, rfl, rfl⟩
  split_ifs
  · rw [BitVec.getLsbD_or, hnotify]
    simp [Cause.bit]
  · exact hnotify

/-- Bit 0 of a leaf's seal after a seal: the sealed leaf's own is set (R101). -/
theorem isSealed_writeSeal {s : State} (hwf : s.capture.wf 65536) (hoffset : s.recorder.cursor.offset ≤ 240)
    (leaf : Byte) : (leafByte (writeSeal s) leaf 240).getLsbD 0 =
      ((leafByte s leaf 240).getLsbD 0 || leaf == s.recorder.cursor.leaf) := by
  obtain ⟨-, -, hbyte, -, -, -, -, -, -, -, -, -, houtside, -⟩ := seals_writeSeal hwf hoffset
  by_cases hleaf : leaf = s.recorder.cursor.leaf
  · rw [hleaf, hbyte, BEq.rfl, Bool.or_true]
    split_ifs <;> rfl
  · rw [leafByte_eq_of_outside houtside hleaf (by omega)]
    simp [hleaf]

theorem accepts_sealnow {s : State} (hpass : passesFour .sealnow s = true) (hplaced : s.recorder.cursor.placed = true)
    (hblocked : s.recorder.cursor.blocked = false) (hsome : 0 < s.recorder.cursor.offset) :
    Accepts .sealnow s (sealLeaf s) := by
  have hcan : canSeal s = true := by
    unfold canSeal
    simp [hplaced, hblocked]
    omega
  exact accepts_command (c := .sealnow) rfl rfl hpass rfl
    (show (if canSeal s then none else some Result.state) = none by rw [hcan]; rfl)

/-- An arrival in the terms of the state before the seal. -/
theorem stands_of_arrives {s t : State} (hwf : s.capture.wf 65536) (hoffset : s.recorder.cursor.offset ≤ 240)
    {entry : BitVec 6} {leaf : Byte} (h : Arrives entry leaf (writeSeal s) t) : t.units = s.units ∧
      t.recorder.cursor = { entry := entry, leaf := leaf, offset := 0, placed := true
                            blocked := (leafByte s leaf 240).getLsbD 0 || leaf == s.recorder.cursor.leaf } := by
  obtain ⟨-, -, heq⟩ := h
  rw [heq]
  dsimp only
  rw [isSealed_writeSeal hwf hoffset, writeSeal_units]
  exact ⟨rfl, rfl⟩

/-- The end of a walk in the terms of the state before the seal. -/
theorem ended_of_walkEnded {s t : State} {entry : BitVec 6} {n : Nat} {alerts : Alerts}
    (hready : s.units.recorder = .running ∨ (s.units.recorder = .ready ∧ s.recorder.countdown = none))
    (h : Discards n { walkEnded entry (writeSeal s) with alerts := alerts } t) :
    t.units.recorder = .ready ∧ t.recorder.countdown = none ∧ t.recorder.cursor =
      { entry := entry, leaf := s.recorder.cursor.leaf, offset := 0, placed := false, blocked := false } := by
  obtain ⟨-, heq⟩ := h
  rw [heq]
  unfold walkEnded
  dsimp only
  rw [writeSeal_units, writeSeal_cursor, writeSeal_countdown]
  rcases hready with hrunning | ⟨hstopped, hnone⟩
  · simp [hrunning]
  · simp [hstopped, hnone]

/-- A pending cause outlasts what the discarded records count. -/
theorem raised_of_discards {n : Nat} {e t : State} (h : Discards n e t) {i : Nat}
    (hraised : e.alerts.raised.getLsbD i = true) : t.alerts.raised.getLsbD i = true := by
  obtain ⟨⟨-, -, -, heq⟩, -⟩ := h
  rw [heq]
  split_ifs
  · rw [BitVec.getLsbD_or, hraised, Bool.true_or]
  · exact hraised

/-- A fault in the terms of the state before the seal (R126, R152). -/
theorem faulted_of_faultsAt {s t : State} {kind : FaultKind} {entry : BitVec 6}
    (h : FaultsAt kind entry (writeSeal s) t) : t.alerts.raised.getLsbD 0 = true ∧
      t.alerts.faultKind = (if s.alerts.raised.getLsbD 0 then s.alerts.faultKind else kind) ∧
      t.alerts.faultEntry = (if s.alerts.raised.getLsbD 0 then s.alerts.faultEntry else entry) := by
  obtain ⟨hbit, hkind, hentry⟩ := writeSeal_fault s
  refine ⟨raised_of_discards h ?_, ?_, ?_⟩
  · dsimp only
    rw [BitVec.getLsbD_or]
    exact Bool.or_true _
  · obtain ⟨-, heq⟩ := h
    rw [heq]
    unfold walkEnded
    dsimp only
    rw [hbit, hkind]
  · obtain ⟨-, heq⟩ := h
    rw [heq]
    unfold walkEnded
    dsimp only
    rw [hbit, hentry]

end Sys2Proof.Machine

open Sys2Proof Sys2Proof.Machine Sys2Proof.Safety

/-- Settles O39: SEALNOW is steps 1 to 5 of a seal and then the advance. -/
theorem sealnowSealsTheLeaf : Obligations.SealnowSealsTheLeaf := by
  unfold Obligations.SealnowSealsTheLeaf
  intro s hpass hwf hplaced hblocked hsome hoffset
  exact ⟨writeSeal s, sealLeaf s, seals_writeSeal hwf hoffset, advances_advance (wf_writeSeal hwf),
    accepts_sealnow hpass hplaced hblocked hsome⟩

/-- Settles O40: the advance of a sealed leaf, course by course. -/
theorem sealedLeafAdvances : Obligations.SealedLeafAdvances := by
  unfold Obligations.SealedLeafAdvances
  intro s hpass hwf hqueue hrun hplaced hblocked hsome hoffset c d last i link e kind inRange stands ended faulted hready
  have hadvances : Advances (writeSeal s) (sealLeaf s) := advances_advance (wf_writeSeal hwf)
  unfold Advances at hadvances
  rw [writeSeal_cursor, show (writeSeal s).directory = s.directory by simp] at hadvances
  dsimp only at hadvances
  have hfaulted {k : FaultKind} {entry : BitVec 6} (h : FaultsAt k entry (writeSeal s) (sealLeaf s)) :
      faulted (sealLeaf s) k entry := ⟨ended_of_walkEnded hready h, faulted_of_faultsAt h⟩
  have hpast (hlast : c.leaf.toNat = last) : ¬s.recorder.cursor.leaf.toNat <
      (entryByte s.directory s.recorder.cursor.entry 1).toNat +
        (entryByte s.directory s.recorder.cursor.entry 2).toNat := Nat.not_lt.mpr (Nat.le_of_eq hlast.symm)
  refine ⟨sealLeaf s, accepts_sealnow hpass hplaced hblocked hsome, fun hlast => ?_, fun hlast hentry => ?_,
    fun hlast hentry hkind hrange => ?_, fun hlast hentry hkind hrange => ?_, fun hlast hentry hkind => ?_,
    fun hlast hentry hkind => ?_, fun hlast hentry hstore hlink hstop => ?_⟩
  · rw [if_pos hlast] at hadvances
    exact stands_of_arrives hwf hoffset hadvances
  all_goals rw [if_neg (hpast hlast)] at hadvances
  · rw [if_pos hentry] at hadvances
    exact hfaulted hadvances
  all_goals rw [if_neg hentry] at hadvances
  · rw [if_pos hkind, if_pos hrange] at hadvances
    exact stands_of_arrives hwf hoffset hadvances
  · rw [if_pos hkind, if_neg hrange] at hadvances
    exact hfaulted hadvances
  · rw [if_neg (by rw [show entryByte s.directory _ 0 = 2 from hkind]; decide), if_pos hkind] at hadvances
    exact hfaulted hadvances
  · rw [if_neg (by rw [show entryByte s.directory _ 0 = 3 from hkind]; decide),
      if_neg (by rw [show entryByte s.directory _ 0 = 3 from hkind]; decide), if_pos hkind] at hadvances
    refine ⟨ended_of_walkEnded hready hadvances, raised_of_discards hadvances ?_⟩
    dsimp only
    rw [BitVec.getLsbD_or]
    exact Bool.or_true _
  · rw [if_neg hstore, if_neg hlink, if_neg hstop] at hadvances
    exact hfaulted hadvances

/-- Settles O41: the record is in the writer's hand within the event, and is handled as R118 to R121 say. -/
theorem markOffersItsRecord : Obligations.MarkOffersItsRecord := by
  unfold Obligations.MarkOffersItsRecord
  intro cls tag s hpass hrunning hready c o bytes
  have haccept : Accepts (.mark cls tag) s (drain o) :=
    accepts_command (c := .mark cls tag) rfl rfl hpass rfl
      (show (if recording s then none else some Result.state) = none by rw [(recording_iff s).2 hrunning]; rfl)
  have ⟨hwf, hoffset, hplaced, _⟩ := hready
  have hstands := hplaced hrunning
  have hbytes : (Rec.mark cls tag (s.timebase.setWidth 32)).bytes = bytes := by
    rw [bytes_mark, show s.timebase.setWidth 32 = timestamp s from rfl, byteAt_timestamp s (by omega),
      byteAt_timestamp s (by omega), byteAt_timestamp s (by omega), byteAt_timestamp s (by omega)]
    rfl
  have hlength : bytes.length = 8 := rfl
  have hhandles := handles_handleRecord (.mark cls tag (s.timebase.setWidth 32)) hwf hoffset hstands
  unfold Handles at hhandles
  rw [hbytes, hlength] at hhandles
  dsimp only at hhandles
  refine ⟨⟨drain o, drains_drain (writerReady_offer hready hrunning), haccept⟩,
    fun hnothing hblocked => ?_, fun hnothing hblocked hfits => ?_, fun hnothing hblocked hfull => ?_⟩
  all_goals
    rw [show drain o = handleRecord (.mark cls tag (s.timebase.setWidth 32)) s from drain_offer_of_nothing _ hnothing]
      at haccept
  · rw [if_pos hblocked] at hhandles
    exact ⟨_, hhandles, haccept⟩
  · rw [if_neg (by rw [show s.recorder.cursor.blocked = false from hblocked]; decide), if_pos hfits] at hhandles
    exact ⟨_, hhandles, haccept⟩
  · rw [if_neg (by rw [show s.recorder.cursor.blocked = false from hblocked]; decide),
      if_neg (Nat.not_le.mpr hfull)] at hhandles
    obtain ⟨u, v, hseals, hadvances, hends⟩ := hhandles
    refine ⟨u, v, _, hseals, hadvances, fun hwalks hopen => ?_, fun hwalks hoccupied => ?_, fun hended => ?_, haccept⟩
    · rwa [if_neg (by rw [hwalks]; decide), if_neg (by rw [hopen]; decide)] at hends
    · rwa [if_neg (by rw [hwalks]; decide), if_pos hoccupied] at hends
    · rwa [if_pos hended] at hends

end

section
/-! SUPPORT. The steps of a tick in the terms of the statements (R44): each step as one whole next state. -/

namespace Sys2Proof.Machine

open Sys2Proof.Safety

/-! ## What a count leaves alone -/

section
variable (offered : Fin 45 → Bool) (s : State)

theorem counted_inputs : (counted offered s).inputs = s.inputs := by
  unfold counted
  dsimp only

theorem counted_units : (counted offered s).units = s.units := by
  unfold counted
  dsimp only

theorem counted_recorder : (counted offered s).recorder = s.recorder := by
  unfold counted
  dsimp only

theorem counted_supervisor : (counted offered s).supervisor = s.supervisor := by
  unfold counted
  dsimp only

theorem counted_timebase : (counted offered s).timebase = s.timebase := by
  unfold counted
  dsimp only

end

/-! ## Steps 1 and 2: the timebase and the PRM filter -/

/-- The state after step 1 of a tick (R44, R45, R47). -/
def tickStarted (prm : Bool) (ev : Half) (s : State) : State :=
  { s with timebase := s.timebase + 1, divider := 0, inPins := { s.inPins with prm := prm, ev := ev } }

/-- Step 2 of a tick is an evaluation of G exactly where it recognizes a change (R48). -/
theorem permitStep_tickStarted {prm : Bool} {ev : Half} {s : State} (hqueue : s.recorder.queue = []) :
    permitStep prm (tickStarted prm ev s) = afterPermit prm ev s := by
  unfold permitStep tickStarted afterPermit permitFlips
  by_cases hsame : prm = s.permit
  · simp only [hsame, if_true, ne_eq, not_true_eq_false, false_and, decide_false, true_or, Bool.false_eq_true, if_false]
  by_cases hfull : s.permitStab = 7
  · simp only [hsame, hfull, if_true, if_false, not_false_eq_true, and_self, decide_true, or_true, ne_eq]
    exact evaluateGrants_eq hqueue
  · simp only [hsame, hfull, if_false, and_false, decide_false, or_self, Bool.false_eq_true]

/-! ## Step 3: the supervisor -/

theorem running_iff (w : Supervisor) : w.running = true ↔ w.state ≠ .off := by
  simp [Supervisor.running, beq_eq_decide, bne]

theorem pulse_le_one_iff (x : Byte) : x ≤ 1 ↔ x.toNat ≤ 1 := BitVec.le_def

/-- At the half-time the supervisor does not fire (R159). -/
theorem half_ne_whole {e : Nat} (he : 1 ≤ e) : 2 ^ (e - 1) ≠ 2 ^ e := by
  intro h
  have := Nat.pow_right_injective (le_refl 2) h
  omega

/-- A SUPERVISOR record is offered where records are on (R162). -/
theorem offerSupervisor_eq (fired : Bool) (s : State) : offerSupervisor fired s =
    if s.units.recorder = .running ∧ s.recorder.config.supervisor = true
    then offer (.supervisor fired s.supervisor.tally (BitVec.ofNat 8 s.supervisor.e) (s.timebase.setWidth 32)) s
    else s := by
  unfold offerSupervisor
  simp only [Bool.and_eq_true, recording_iff]
  rfl

/-- The firing: the pin, the cause, the count, and then the record (R160). -/
theorem fireHost_eq (s : State) : fireHost s = offerSupervisor true (counted (fun k => k == 39) { s with
    supervisor := { s.supervisor with
      phase := .pulsing, pulse := s.supervisor.w, tally := satInc s.supervisor.tally }
    outPins := { s.outPins with hrstLow := true }
    alerts := { s.alerts with raised := s.alerts.raised ||| 0x80 } }) := by
  unfold fireHost
  dsimp only
  rw [raise_offerCount, offerCount_eq_counted]
  rfl

/-- The supervisor's count goes up by one (R159). -/
def supervisorCounted (s : State) : State :=
  { s with supervisor := { s.supervisor with count := s.supervisor.count + 1 } }

theorem supervisorStep_eq_afterSupervisor {s : State} (he : 1 ≤ s.supervisor.e) :
    supervisorStep s = afterSupervisor s := by
  by_cases hoff : s.supervisor.state = .off
  · have hstill : s.supervisor.running = false := by simp [Supervisor.running, hoff]
    unfold supervisorStep afterSupervisor supervised fires warns pulseEnds
    simp [hstill, hoff, beq_eq_decide]
  have hrunning : s.supervisor.running = true := (running_iff _).2 hoff
  have hwatch : (s.supervisor.state == .openWatch || s.supervisor.state == .watch) = true := by
    cases hstate : s.supervisor.state <;> simp_all
  by_cases hpulsing : s.supervisor.phase = .pulsing
  · have hsame : (WdPhase.pulsing == WdPhase.pulsing) = true := rfl
    unfold supervisorStep pulseStep afterSupervisor supervised fires warns pulseEnds
    by_cases hlast : s.supervisor.pulse.toNat ≤ 1
    · simp only [hrunning, hwatch, hoff, hpulsing, pulse_le_one_iff, hlast, hsame, if_true, if_false, Bool.not_true,
        Bool.false_eq_true, bne, Bool.and_false, Bool.false_and, decide_true, Bool.and_self]
    · simp only [hrunning, hwatch, hoff, hpulsing, pulse_le_one_iff, hlast, hsame, if_true, if_false, Bool.not_true,
        Bool.false_eq_true, bne, Bool.and_false, Bool.false_and, Bool.true_and, decide_false]
  have hcounting : (s.supervisor.phase == .pulsing) = false := by simpa [beq_eq_decide] using hpulsing
  have hhalf := half_ne_whole he
  have hcounts : supervisorStep s = if s.supervisor.count + 1 = 2 ^ (s.supervisor.e - 1) then
        (if s.supervisor.warn then warnHost (supervisorCounted s) else supervisorCounted s)
      else if s.supervisor.count + 1 = 2 ^ s.supervisor.e then fireHost (supervisorCounted s)
      else supervisorCounted s := by
    unfold supervisorStep
    dsimp only
    rw [hrunning, hcounting]
    rfl
  have hends : pulseEnds s.supervisor = false := by simp [pulseEnds, hcounting]
  unfold afterSupervisor supervised
  rw [hcounts, hends]
  by_cases hwhole : s.supervisor.count + 1 = 2 ^ s.supervisor.e
  · have hfires : fires s.supervisor = true := by simp [fires, hwatch, hcounting, hwhole, bne]
    rw [if_neg (hwhole ▸ hhalf.symm), if_pos hwhole, if_pos hfires, fireHost_eq, offerSupervisor_eq]
    simp only [if_neg hoff, if_neg hpulsing, hfires, if_true, counted_units, counted_recorder, counted_supervisor,
      counted_timebase, supervisorCounted, satInc_eq]
    rfl
  have hfires : fires s.supervisor = false := by simp [fires, hwhole]
  by_cases hwarns : s.supervisor.count + 1 = 2 ^ (s.supervisor.e - 1) ∧ s.supervisor.warn = true
  · obtain ⟨hhalfway, hwarn⟩ := hwarns
    have hdue : warns s.supervisor = true := by simp [warns, hwatch, hcounting, hhalfway, hwarn, bne]
    rw [if_pos hhalfway, if_pos hwarn]
    unfold warnHost
    rw [offerSupervisor_eq]
    simp only [if_neg hoff, if_neg hpulsing, hfires, hdue, if_true, Bool.false_eq_true, if_false, supervisorCounted]
    rfl
  · have hquiet : warns s.supervisor = false := by
      rw [Bool.eq_false_iff]
      intro h
      simp only [warns, Bool.and_eq_true, beq_iff_eq] at h
      exact hwarns ⟨h.2, h.1.2⟩
    simp only [if_neg hoff, if_neg hpulsing, hfires, hquiet, if_false, Bool.false_eq_true]
    rw [if_neg hwhole]
    by_cases hhalfway : s.supervisor.count + 1 = 2 ^ (s.supervisor.e - 1)
    · rw [if_pos hhalfway, if_neg fun hwarn => hwarns ⟨hhalfway, hwarn⟩]
      rfl
    · rw [if_neg hhalfway]
      rfl

/-! ## Step 4: the conditioners -/

theorem candidate_eq (c : Conditioner) (raw : Bool) : c.candidate raw = candidateOf raw c := by
  unfold Conditioner.candidate candidateOf
  cases c.inverted <;> cases raw <;> rfl

theorem edges_eq (c : Conditioner) (raw : Bool) : c.edges raw = hasEdge raw c := by
  unfold Conditioner.edges hasEdge
  rw [candidate_eq]
  rfl

theorem qualifies_eq (m : EdgeMode) (rising : Bool) : m.qualifies rising = qualified m rising := by
  cases m <;> cases rising <;> rfl

theorem step_eq_conditioned (c : Conditioner) (raw : Bool) : c.step raw = conditioned (candidateOf raw c) c := by
  unfold Conditioner.step conditioned
  rw [candidate_eq]
  have hfull : c.filter ≤ c.stab ↔ ¬c.stab.toNat < c.filter.toNat := by
    rw [BitVec.le_def]
    omega
  cases c.seeded with
  | false => rfl
  | true =>
    simp only [Bool.not_true, Bool.false_eq_true, if_false, Bool.true_eq_false, beq_iff_eq, hfull, ite_not]

theorem trig_conditioned (x : Bool) (c : Conditioner) : (conditioned x c).trig = c.trig := by
  unfold conditioned
  split_ifs <;> rfl

theorem edgeCounter_eq (n : Fin 16) : (fun k : Fin 45 => k == edgeCounter n) = fun k => k.val == n.val := by
  funext k
  rw [Bool.eq_iff_iff, beq_iff_eq, beq_iff_eq, Fin.ext_iff]
  rfl

theorem inputStep_eq_afterInput (ev : Half) (n : Fin 16) (s : State) : inputStep ev n s = afterInput ev s n := by
  unfold inputStep afterInput
  dsimp only
  rw [edges_eq, qualifies_eq, candidate_eq, step_eq_conditioned]
  refine if_congr Iff.rfl ?_ rfl
  unfold qualifiedEdge offerEvent
  rw [offerCount_eq_counted, edgeCounter_eq]
  refine if_congr ?_ rfl rfl
  rw [Bool.and_eq_true, Bool.and_eq_true, recording_iff, and_assoc]
  refine and_congr_left' ?_
  rw [counted_inputs]
  simp [trig_conditioned]

theorem inputsStep_eq (ev : Half) (s : State) : inputsStep ev s = allInputs.foldl (afterInput ev) s := by
  unfold inputsStep
  congr 1
  funext t n
  exact inputStep_eq_afterInput ev n t

/-! ## Step 6: sampling -/

theorem sampleStep_eq_afterSampling (s : State) : sampleStep s = afterSampling s := by
  unfold sampleStep afterSampling
  by_cases hrunning : s.units.recorder = .running
  · rw [if_pos ((recording_iff s).2 hrunning), if_neg (not_not.mpr hrunning)]
    cases hcountdown : s.recorder.countdown with
    | none => rfl
    | some n =>
      dsimp only
      have hdue : n - 1 = 0 ↔ n = 1 := by
        constructor <;> intro h <;> bv_omega
      rw [if_congr hdue rfl rfl, ite_not]
      refine if_congr Iff.rfl ?_ rfl
      refine if_congr (by simp) rfl (if_congr Iff.rfl ?_ ?_)
      · unfold deferSample
        dsimp only
        cases hdeferred : s.recorder.deferred with
        | false => rfl
        | true =>
          simp only [if_true, satInc_eq, Bool.true_eq_false, if_false]
          rfl
      · unfold offerSnapshot
        simp [wrapInc]
  · rw [if_neg (by rwa [recording_iff]), if_pos hrunning]

/-! ## Step 7: the hold -/

theorem endHold_eq_holdEnded (s : State) : endHold s = holdEnded s := by
  unfold endHold settleDeferral holdEnded
  dsimp only
  cases hdeferred : s.recorder.deferred with
  | false =>
    simp only [Bool.false_eq_true, false_and, if_false]
    rw [← hdeferred]
  | true =>
    by_cases hrunning : s.units.recorder = .running
    · simp only [recording, hrunning, if_true, and_self, BEq.rfl, offerSnapshot, wrapInc, offer_recorder_rest]
    · have hnot : (s.units.recorder == .running) = false := by simpa [beq_eq_decide] using hrunning
      simp only [recording, hrunning, hnot, if_true, and_false, if_false, Bool.false_eq_true]

theorem holdStep_eq_afterHoldTick (s : State) : holdStep s = afterHoldTick s := by
  unfold holdStep afterHoldTick heldOn
  rw [endHold_eq_holdEnded]
  by_cases hactive : s.hold.active = true
  · by_cases hlast : s.hold.ticks = 255
    · simp only [hactive, hlast, if_true, and_self]
    · simp only [hactive, hlast, if_true, if_false, and_false]
  · simp [hactive]

end Sys2Proof.Machine
end

section
/-! SUPPORT. The DWELL counts and the tick as a whole (R44, R78): steps 1 to 7, the drain and ALERT#. -/

namespace Sys2Proof.Machine

open Sys2Proof.Safety

/-! ## Step 5: the DWELL counts -/

/-- The DWELL counters that some inputs are to be counted in: those at conditioned level 1 (R78). -/
def dwellOffered (l : List (Fin 16)) (s : State) (k : Fin 45) : Bool :=
  l.any fun n => k == dwellCounter n && s.inputs[n].level

theorem dwellCounter_injective {m n : Fin 16} (h : dwellCounter m = dwellCounter n) : m = n := by
  have := congrArg Fin.val h
  simp only [dwellCounter] at this
  exact Fin.ext (by omega)

theorem dwellOffered_of_not_mem {l : List (Fin 16)} {n : Fin 16} (h : n ∉ l) (s : State) :
    dwellOffered l s (dwellCounter n) = false := by
  unfold dwellOffered
  rw [List.any_eq_false]
  intro m hm hboth
  rw [Bool.and_eq_true, beq_iff_eq] at hboth
  exact h (dwellCounter_injective hboth.1 ▸ hm)

/-- Step 5 of a tick over some of the inputs (R78). -/
def dwellCounts (l : List (Fin 16)) (s : State) : State :=
  l.foldl (fun t n => if t.inputs[n].level then offerCount (dwellCounter n) t else t) s

theorem dwellStep_eq_dwellCounts (s : State) : dwellStep s = dwellCounts allInputs s := by
  unfold dwellStep dwellCounts
  rfl

theorem dwellCounts_append (l : List (Fin 16)) (n : Fin 16) (s : State) : dwellCounts (l ++ [n]) s =
    if (dwellCounts l s).inputs[n].level then offerCount (dwellCounter n) (dwellCounts l s) else dwellCounts l s := by
  unfold dwellCounts
  rw [List.foldl_append, List.foldl_cons, List.foldl_nil]

/-- The counts of step 5, input by input. -/
theorem counted_dwell (l : List (Fin 16)) (hl : l.Nodup) (s : State) :
    Counted (dwellOffered l s) s (dwellCounts l s) ∧ ∃ counters raised,
      dwellCounts l s = { s with counters := counters, alerts := { s.alerts with raised := raised } } := by
  induction l using List.reverseRecOn with
  | nil => exact ⟨counted_of_none_offered s fun _ => rfl, s.counters, s.alerts.raised, rfl⟩
  | append_singleton l n ih =>
    rw [List.nodup_append] at hl
    obtain ⟨hl, -, hdisjoint⟩ := hl
    have hn : n ∉ l := fun hmem => hdisjoint n hmem n (List.mem_singleton.mpr rfl) rfl
    have hoffered (k : Fin 45) :
        dwellOffered (l ++ [n]) s k = (dwellOffered l s k || (k == dwellCounter n && s.inputs[n].level)) := by
      unfold dwellOffered
      rw [List.any_append]
      simp
    obtain ⟨hcounted, counters, raised, hshape⟩ := ih hl
    rw [dwellCounts_append]
    generalize dwellCounts l s = t at *
    have hlevel : t.inputs[n].level = s.inputs[n].level := by rw [hshape]
    rw [hlevel]
    cases hset : s.inputs[n].level with
    | false =>
      rw [if_neg (by decide), show dwellOffered (l ++ [n]) s = dwellOffered l s from
        funext fun k => by rw [hoffered, hset, Bool.and_false, Bool.or_false]]
      exact ⟨hcounted, counters, raised, hshape⟩
    | true =>
      obtain ⟨counters', raised', hcount⟩ := offerCount_shape (dwellCounter n) t
      rw [if_pos rfl, show dwellOffered (l ++ [n]) s = fun k => k == dwellCounter n || dwellOffered l s k from
        funext fun k => by rw [hoffered, hset, Bool.and_true, Bool.or_comm]]
      refine ⟨counted_offerCount hcounted (by rw [hshape]) (dwellOffered_of_not_mem hn s), counters', raised', ?_⟩
      rw [hcount, hshape]

theorem mem_allInputs : ∀ n : Fin 16, n ∈ allInputs := by decide

theorem dwellOffered_all (s : State) : dwellOffered allInputs s =
    fun k => if h : 16 ≤ k.val ∧ k.val < 32 then s.inputs[k.val - 16].level else false := by
  funext k
  split_ifs with h
  · obtain ⟨n, rfl⟩ : ∃ n : Fin 16, k = dwellCounter n := ⟨⟨k.val - 16, by omega⟩, Fin.ext (by simp [dwellCounter]; omega)⟩
    unfold dwellOffered
    rw [Bool.eq_iff_iff, List.any_eq_true]
    constructor
    · rintro ⟨m, -, hm⟩
      rw [Bool.and_eq_true, beq_iff_eq] at hm
      obtain ⟨heq, hlevel⟩ := hm
      rw [← dwellCounter_injective heq] at hlevel
      simpa [dwellCounter] using hlevel
    · intro hlevel
      refine ⟨n, mem_allInputs n, ?_⟩
      rw [BEq.rfl, Bool.true_and]
      simpa [dwellCounter] using hlevel
  · unfold dwellOffered
    rw [List.any_eq_false]
    intro n _ hn
    rw [Bool.and_eq_true, beq_iff_eq] at hn
    rw [hn.1] at h
    exact h ⟨by simp [dwellCounter], by simp [dwellCounter]; omega⟩

theorem dwellStep_eq_afterDwell (s : State) : dwellStep s = afterDwell s := by
  obtain ⟨hcounted, hshape⟩ := counted_dwell allInputs (by decide) s
  rw [dwellStep_eq_dwellCounts, eq_counted hcounted hshape, dwellOffered_all]
  rfl

/-! ## The tick -/

/-- A tick from an empty queue is steps 1 to 7, the drain and ALERT# (R44). -/
theorem tickSteps_eq {prm : Bool} {ev : Half} {s : State} (hqueue : s.recorder.queue = []) (he : 1 ≤ s.supervisor.e) :
    tickSteps prm ev s = evalAlert (drain (beforeDrain prm ev s)) := by
  have hpermit : permitStep prm (tickStarted prm ev s) = afterPermit prm ev s := permitStep_tickStarted hqueue
  have hkept : 1 ≤ (afterPermit prm ev s).supervisor.e := by
    rw [← hpermit, show (permitStep prm (tickStarted prm ev s)).supervisor = s.supervisor by simp [tickStarted]]
    exact he
  show evalAlert (drain (holdStep (sampleStep (dwellStep (inputsStep ev (supervisorStep
    (permitStep prm (tickStarted prm ev s)))))))) = _
  rw [hpermit, supervisorStep_eq_afterSupervisor hkept, inputsStep_eq, dwellStep_eq_afterDwell,
    sampleStep_eq_afterSampling, holdStep_eq_afterHoldTick]
  rfl

end Sys2Proof.Machine
end

section
/-! SUPPORT. What no event but its own command sets: the wrap enables, the alert mask and the recorder's configuration
(R86, R105, R146). -/

namespace Sys2Proof.Machine

open Sys2Proof.Safety

@[simp] theorem countLost_settings (s : State) :
    (countLost s).counters.wrapAlert = s.counters.wrapAlert ∧ (countLost s).alerts.mask = s.alerts.mask ∧
    (countLost s).recorder.config = s.recorder.config := by
  simp [countLost]

@[simp] theorem offer_settings (r : Rec) (s : State) :
    (offer r s).counters.wrapAlert = s.counters.wrapAlert ∧ (offer r s).alerts.mask = s.alerts.mask ∧
    (offer r s).recorder.config = s.recorder.config := by
  unfold offer; dsimp only; (repeat' split) <;> simp

@[simp] theorem offerSnapshot_settings (d : Bool) (m : BitVec 4) (s : State) :
    (offerSnapshot d m s).counters.wrapAlert = s.counters.wrapAlert ∧
    (offerSnapshot d m s).alerts.mask = s.alerts.mask ∧
    (offerSnapshot d m s).recorder.config = s.recorder.config := by
  simp [offerSnapshot]

@[simp] theorem sampleStep_settings (s : State) :
    (sampleStep s).counters.wrapAlert = s.counters.wrapAlert ∧ (sampleStep s).alerts.mask = s.alerts.mask ∧
    (sampleStep s).recorder.config = s.recorder.config := by
  unfold sampleStep deferSample; dsimp only; (repeat' split) <;> simp

@[simp] theorem settleDeferral_settings (s : State) :
    (settleDeferral s).counters.wrapAlert = s.counters.wrapAlert ∧ (settleDeferral s).alerts.mask = s.alerts.mask ∧
    (settleDeferral s).recorder.config = s.recorder.config := by
  unfold settleDeferral; dsimp only; (repeat' split) <;> simp

@[simp] theorem leafEntry_settings (s : State) :
    (leafEntry s).counters.wrapAlert = s.counters.wrapAlert ∧ (leafEntry s).alerts.mask = s.alerts.mask ∧
    (leafEntry s).recorder.config = s.recorder.config := by
  unfold leafEntry; dsimp only; split_ifs <;> simp

@[simp] theorem arrive_settings (e : BitVec 6) (l : Byte) (s : State) :
    (arrive e l s).counters.wrapAlert = s.counters.wrapAlert ∧ (arrive e l s).alerts.mask = s.alerts.mask ∧
    (arrive e l s).recorder.config = s.recorder.config := by
  simp [arrive]

@[simp] theorem offerCounts_settings (c : Fin 45) (n : Nat) (s : State) :
    (offerCounts c n s).counters.wrapAlert = s.counters.wrapAlert ∧ (offerCounts c n s).alerts.mask = s.alerts.mask ∧
    (offerCounts c n s).recorder.config = s.recorder.config := by
  induction n generalizing s with
  | zero => simp [offerCounts]
  | succ n ih => simp [offerCounts, ih]

@[simp] theorem discardQueue_settings (s : State) :
    (discardQueue s).counters.wrapAlert = s.counters.wrapAlert ∧ (discardQueue s).alerts.mask = s.alerts.mask ∧
    (discardQueue s).recorder.config = s.recorder.config := by
  simp [discardQueue]

@[simp] theorem stopAt_settings (e : BitVec 6) (s : State) :
    (stopAt e s).counters.wrapAlert = s.counters.wrapAlert ∧ (stopAt e s).alerts.mask = s.alerts.mask ∧
    (stopAt e s).recorder.config = s.recorder.config := by
  simp [stopAt, endWalk]

@[simp] theorem faultAt_settings (k : FaultKind) (e : BitVec 6) (s : State) :
    (faultAt k e s).counters.wrapAlert = s.counters.wrapAlert ∧ (faultAt k e s).alerts.mask = s.alerts.mask ∧
    (faultAt k e s).recorder.config = s.recorder.config := by
  unfold faultAt recordFault; split_ifs <;> simp [endWalk]

@[simp] theorem advance_settings (s : State) :
    (advance s).counters.wrapAlert = s.counters.wrapAlert ∧ (advance s).alerts.mask = s.alerts.mask ∧
    (advance s).recorder.config = s.recorder.config := by
  unfold advance; dsimp only; (repeat' split) <;> simp

@[simp] theorem writeSeal_settings (s : State) :
    (writeSeal s).counters.wrapAlert = s.counters.wrapAlert ∧ (writeSeal s).alerts.mask = s.alerts.mask ∧
    (writeSeal s).recorder.config = s.recorder.config := by
  unfold writeSeal; dsimp only; split_ifs <;> simp

@[simp] theorem sealLeaf_settings (s : State) :
    (sealLeaf s).counters.wrapAlert = s.counters.wrapAlert ∧ (sealLeaf s).alerts.mask = s.alerts.mask ∧
    (sealLeaf s).recorder.config = s.recorder.config := by
  simp [sealLeaf]

@[simp] theorem placeRecord_settings (r : Rec) (s : State) :
    (placeRecord r s).counters.wrapAlert = s.counters.wrapAlert ∧ (placeRecord r s).alerts.mask = s.alerts.mask ∧
    (placeRecord r s).recorder.config = s.recorder.config := by
  simp [placeRecord, apply_ite State.recorder, apply_ite State.counters, apply_ite State.alerts]

@[simp] theorem dropRecord_settings (s : State) :
    (dropRecord s).counters.wrapAlert = s.counters.wrapAlert ∧ (dropRecord s).alerts.mask = s.alerts.mask ∧
    (dropRecord s).recorder.config = s.recorder.config := by
  simp [dropRecord]

@[simp] theorem handleRecord_settings (r : Rec) (s : State) :
    (handleRecord r s).counters.wrapAlert = s.counters.wrapAlert ∧ (handleRecord r s).alerts.mask = s.alerts.mask ∧
    (handleRecord r s).recorder.config = s.recorder.config := by
  unfold handleRecord; dsimp only; split_ifs <;> simp

@[simp] theorem drainList_settings (l : List Rec) (s : State) :
    (drainList l s).counters.wrapAlert = s.counters.wrapAlert ∧ (drainList l s).alerts.mask = s.alerts.mask ∧
    (drainList l s).recorder.config = s.recorder.config := by
  induction l generalizing s with
  | nil => simp [drainList]
  | cons r l ih => unfold drainList; dsimp only; split_ifs <;> simp [ih]

@[simp] theorem drain_settings (s : State) :
    (drain s).counters.wrapAlert = s.counters.wrapAlert ∧ (drain s).alerts.mask = s.alerts.mask ∧
    (drain s).recorder.config = s.recorder.config := by
  simp [drain]

@[simp] theorem recorderStops_settings (s : State) :
    (recorderStops s).counters.wrapAlert = s.counters.wrapAlert ∧ (recorderStops s).alerts.mask = s.alerts.mask ∧
    (recorderStops s).recorder.config = s.recorder.config := by
  simp [recorderStops]

@[simp] theorem recorderStarts_settings (e : BitVec 6) (u : UnitState) (s : State) :
    (recorderStarts e u s).counters.wrapAlert = s.counters.wrapAlert ∧
    (recorderStarts e u s).alerts.mask = s.alerts.mask ∧
    (recorderStarts e u s).recorder.config = s.recorder.config := by
  simp [recorderStarts]

@[simp] theorem endHold_settings (s : State) :
    (endHold s).counters.wrapAlert = s.counters.wrapAlert ∧ (endHold s).alerts.mask = s.alerts.mask ∧
    (endHold s).recorder.config = s.recorder.config := by
  simp [endHold]

@[simp] theorem holdAccounting_settings (s : State) :
    (holdAccounting s).counters.wrapAlert = s.counters.wrapAlert ∧ (holdAccounting s).alerts.mask = s.alerts.mask ∧
    (holdAccounting s).recorder.config = s.recorder.config := by
  unfold holdAccounting; split_ifs <;> simp

@[simp] theorem finishCommand_settings (held : Bool) (r : Result) (s : State) :
    (finishCommand held r s).counters.wrapAlert = s.counters.wrapAlert ∧
    (finishCommand held r s).alerts.mask = s.alerts.mask ∧
    (finishCommand held r s).recorder.config = s.recorder.config := by
  unfold finishCommand; dsimp only; split_ifs <;> simp

@[simp] theorem regrantBank_settings (b : Bank) (s : State) :
    (regrantBank b s).counters.wrapAlert = s.counters.wrapAlert ∧ (regrantBank b s).alerts.mask = s.alerts.mask ∧
    (regrantBank b s).recorder.config = s.recorder.config := by
  unfold regrantBank; split_ifs <;> simp

@[simp] theorem evaluateGrants_settings (s : State) :
    (evaluateGrants s).counters.wrapAlert = s.counters.wrapAlert ∧ (evaluateGrants s).alerts.mask = s.alerts.mask ∧
    (evaluateGrants s).recorder.config = s.recorder.config := by
  unfold evaluateGrants regrantRecorder clearWrapCause; dsimp only; (repeat' split) <;> simp

@[simp] theorem permitStep_settings (p : Bool) (s : State) :
    (permitStep p s).counters.wrapAlert = s.counters.wrapAlert ∧ (permitStep p s).alerts.mask = s.alerts.mask ∧
    (permitStep p s).recorder.config = s.recorder.config := by
  unfold permitStep; (repeat' split) <;> simp

@[simp] theorem offerSupervisor_settings (f : Bool) (s : State) :
    (offerSupervisor f s).counters.wrapAlert = s.counters.wrapAlert ∧
    (offerSupervisor f s).alerts.mask = s.alerts.mask ∧
    (offerSupervisor f s).recorder.config = s.recorder.config := by
  unfold offerSupervisor; split_ifs <;> simp

@[simp] theorem supervisorStep_settings (s : State) :
    (supervisorStep s).counters.wrapAlert = s.counters.wrapAlert ∧ (supervisorStep s).alerts.mask = s.alerts.mask ∧
    (supervisorStep s).recorder.config = s.recorder.config := by
  unfold supervisorStep warnHost fireHost pulseStep; dsimp only; (repeat' split) <;> simp

@[simp] theorem inputStep_settings (ev : Half) (n : Fin 16) (s : State) :
    (inputStep ev n s).counters.wrapAlert = s.counters.wrapAlert ∧ (inputStep ev n s).alerts.mask = s.alerts.mask ∧
    (inputStep ev n s).recorder.config = s.recorder.config := by
  unfold inputStep qualifiedEdge offerEvent; dsimp only; (repeat' split) <;> simp

@[simp] theorem inputsStep_settings (ev : Half) (s : State) :
    (inputsStep ev s).counters.wrapAlert = s.counters.wrapAlert ∧ (inputsStep ev s).alerts.mask = s.alerts.mask ∧
    (inputsStep ev s).recorder.config = s.recorder.config := by
  unfold inputsStep
  exact ⟨foldl_keeps (fun t => t.counters.wrapAlert) _ (fun t n => (inputStep_settings ev n t).1) _ s,
    foldl_keeps (fun t => t.alerts.mask) _ (fun t n => (inputStep_settings ev n t).2.1) _ s,
    foldl_keeps (fun t => t.recorder.config) _ (fun t n => (inputStep_settings ev n t).2.2) _ s⟩

@[simp] theorem dwellStep_settings (s : State) :
    (dwellStep s).counters.wrapAlert = s.counters.wrapAlert ∧ (dwellStep s).alerts.mask = s.alerts.mask ∧
    (dwellStep s).recorder.config = s.recorder.config := by
  rw [dwellStep_eq_afterDwell]; unfold afterDwell counted; dsimp only; exact ⟨rfl, rfl, rfl⟩

@[simp] theorem holdStep_settings (s : State) :
    (holdStep s).counters.wrapAlert = s.counters.wrapAlert ∧ (holdStep s).alerts.mask = s.alerts.mask ∧
    (holdStep s).recorder.config = s.recorder.config := by
  unfold holdStep; split_ifs <;> simp

end Sys2Proof.Machine
end

section
/-! SUPPORT. What the steps of a tick leave alone, and what they make of the fields that are one step's own (R44). -/

namespace Sys2Proof.Machine

open Sys2Proof.Safety

/-! ## Steps that only offer records -/

/-- From `s` to `t` nothing is written and the writer stays where it is; at most records are offered, and none unless
the recorder is Running. -/
def OffersOnly (s t : State) : Prop :=
  t.capture = s.capture ∧ t.units = s.units ∧ t.recorder.cursor = s.recorder.cursor ∧
    (s.units.recorder ≠ .running → t.recorder.queue = s.recorder.queue)

theorem OffersOnly.trans {s t u : State} (h : OffersOnly s t) (h' : OffersOnly t u) : OffersOnly s u := by
  obtain ⟨hcapture, hunits, hcursor, hqueue⟩ := h
  obtain ⟨hcapture', hunits', hcursor', hqueue'⟩ := h'
  exact ⟨hcapture'.trans hcapture, hunits'.trans hunits, hcursor'.trans hcursor,
    fun hidle => (hqueue' (hunits ▸ hidle)).trans (hqueue hidle)⟩

theorem OffersOnly.of_eq {s t : State} (hcapture : t.capture = s.capture) (hunits : t.units = s.units)
    (hcursor : t.recorder.cursor = s.recorder.cursor) (hqueue : t.recorder.queue = s.recorder.queue) : OffersOnly s t :=
  ⟨hcapture, hunits, hcursor, fun _ => hqueue⟩

theorem OffersOnly.refl (s : State) : OffersOnly s s := .of_eq rfl rfl rfl rfl

theorem offersOnly_offer (r : Rec) {s : State} (hrunning : s.units.recorder = .running) : OffersOnly s (offer r s) :=
  ⟨by simp, by simp, by simp, fun h => absurd hrunning h⟩

theorem offersOnly_offerSupervisor (fired : Bool) (s : State) : OffersOnly s (offerSupervisor fired s) := by
  rw [offerSupervisor_eq]
  split_ifs with h
  · exact offersOnly_offer _ h.1
  · exact .refl s

theorem offersOnly_supervisorStep (s : State) : OffersOnly s (supervisorStep s) := by
  unfold supervisorStep warnHost fireHost pulseStep
  dsimp only
  split_ifs
  · exact .refl s
  · exact .of_eq rfl rfl rfl rfl
  · exact .of_eq rfl rfl rfl rfl
  · exact .trans (.of_eq rfl rfl rfl rfl) (offersOnly_offerSupervisor _ _)
  · exact .of_eq rfl rfl rfl rfl
  · exact .trans (.of_eq (by simp) (by simp) (by simp) (by simp)) (offersOnly_offerSupervisor _ _)
  · exact .of_eq rfl rfl rfl rfl

theorem offersOnly_offerEvent (n : Fin 16) (rising : Bool) (s : State) : OffersOnly s (offerEvent n rising s) := by
  unfold offerEvent
  dsimp only
  by_cases h : (s.inputs[n].trig && recording s && s.recorder.config.events) = true
  · rw [if_pos h]
    rw [Bool.and_eq_true, Bool.and_eq_true, recording_iff] at h
    exact offersOnly_offer _ h.1.2
  · rw [if_neg h]
    exact .refl s

theorem offersOnly_inputStep (ev : Half) (n : Fin 16) (s : State) : OffersOnly s (inputStep ev n s) := by
  unfold inputStep qualifiedEdge
  dsimp only
  split_ifs
  · exact .trans (.of_eq (by simp) (by simp) (by simp) (by simp)) (offersOnly_offerEvent _ _ _)
  · exact .of_eq rfl rfl rfl rfl

theorem offersOnly_inputsStep (ev : Half) (s : State) : OffersOnly s (inputsStep ev s) := by
  unfold inputsStep
  induction allInputs generalizing s with
  | nil => exact .refl s
  | cons n l ih => exact (offersOnly_inputStep ev n s).trans (ih _)

theorem offersOnly_dwellStep (s : State) : OffersOnly s (dwellStep s) := by
  rw [dwellStep_eq_afterDwell]
  exact .of_eq (by unfold afterDwell counted; rfl) (counted_units _ _) (by rw [afterDwell, counted_recorder])
    (by rw [afterDwell, counted_recorder])

theorem offersOnly_offerSnapshot (deferred : Bool) (missed : BitVec 4) {s : State}
    (hrunning : s.units.recorder = .running) : OffersOnly s (offerSnapshot deferred missed s) :=
  .trans (offersOnly_offer _ hrunning) (.of_eq rfl rfl rfl rfl)

theorem offersOnly_deferSample (s : State) : OffersOnly s (deferSample s) := by
  unfold deferSample
  split_ifs <;> exact .of_eq rfl rfl rfl rfl

theorem offersOnly_sampleStep (s : State) : OffersOnly s (sampleStep s) := by
  unfold sampleStep
  by_cases hrecording : recording s = true
  · have hrunning := (recording_iff s).1 hrecording
    rw [if_pos hrecording]
    cases s.recorder.countdown with
    | none => exact .refl s
    | some n =>
      dsimp only
      split_ifs
      · exact .of_eq rfl rfl rfl rfl
      · exact .trans (.of_eq rfl rfl rfl rfl) (offersOnly_deferSample _)
      · exact .trans (.of_eq rfl rfl rfl rfl) (offersOnly_offerSnapshot _ _ hrunning)
      · exact .of_eq rfl rfl rfl rfl
  · rw [if_neg hrecording]
    exact .refl s

theorem offersOnly_endHold (s : State) : OffersOnly s (endHold s) := by
  unfold endHold settleDeferral
  dsimp only
  split_ifs with hdeferred hrunning
  · refine .trans (t := offerSnapshot true s.recorder.missed
      { s with hold := { active := false, remaining := 0, ticks := 0, alertLow := false } }) ?_
      (.of_eq rfl rfl rfl rfl)
    exact .trans (.of_eq rfl rfl rfl rfl) (offersOnly_offerSnapshot _ _ ((recording_iff _).1 hrunning))
  · exact .of_eq rfl rfl rfl rfl
  · exact .of_eq rfl rfl rfl rfl

theorem offersOnly_holdStep (s : State) : OffersOnly s (holdStep s) := by
  unfold holdStep
  split_ifs
  · exact offersOnly_endHold s
  · exact .of_eq rfl rfl rfl rfl
  · exact .refl s

/-- Steps 3 to 7 of a tick only offer records. -/
theorem offersOnly_steps (ev : Half) (s : State) :
    OffersOnly s (holdStep (sampleStep (dwellStep (inputsStep ev (supervisorStep s))))) :=
  (offersOnly_supervisorStep s).trans ((offersOnly_inputsStep ev _).trans ((offersOnly_dwellStep _).trans
    ((offersOnly_sampleStep _).trans (offersOnly_holdStep _))))

theorem writerReady_of_offersOnly {s t : State} (h : WriterReady s) (hoffers : OffersOnly s t) : WriterReady t := by
  obtain ⟨hwf, hoffset, hplaced, hempty⟩ := h
  obtain ⟨hcapture, hunits, hcursor, hqueue⟩ := hoffers
  refine ⟨hcapture ▸ hwf, hcursor ▸ hoffset, fun hrunning => ?_, fun hnot => ?_⟩
  · rw [hcursor]
    exact hplaced (hunits ▸ hrunning)
  · rw [hcursor] at hnot
    rw [hqueue fun hrunning => absurd (hplaced hrunning) (by rw [hnot]; decide)]
    exact hempty hnot

/-- Step 2 of a tick leaves the writer in order: a revoked recorder is unplaced with nothing queued (R64, R109). -/
theorem writerReady_evaluateGrants {s : State} (hqueue : s.recorder.queue = []) (h : WriterReady s) :
    WriterReady (evaluateGrants s) ∧ (evaluateGrants s).recorder.queue = [] := by
  obtain ⟨hwf, hoffset, hplaced, -⟩ := h
  have hempty : (evaluateGrants s).recorder.queue = [] := by
    rcases evaluateGrants_recorder s with hrecorder | hrecorder <;> rw [hrecorder]
    · exact hqueue
    · rfl
  refine ⟨⟨by simpa using hwf, ?_, ?_, fun _ => hempty⟩, hempty⟩
  · rcases evaluateGrants_recorder s with hrecorder | hrecorder <;> rw [hrecorder]
    · exact hoffset
    · exact Nat.zero_le _
  · rw [evaluateGrants_eq hqueue]
    unfold afterEvaluation
    dsimp only
    intro hrunning
    by_cases hgrant : (s.grantMask.getLsbD 4 && (!s.guardMask.getLsbD 4 || s.permit)) = true
    · rw [if_pos hgrant] at hrunning
      rw [if_neg (by rw [hgrant, Bool.not_true, Bool.and_false]; decide)]
      split_ifs at hrunning
      exact hplaced hrunning
    · rw [if_neg hgrant] at hrunning
      exact absurd hrunning (by decide)

theorem writerReady_permitStep (prm : Bool) {s : State} (hqueue : s.recorder.queue = []) (h : WriterReady s) :
    WriterReady (permitStep prm s) := by
  unfold permitStep
  split_ifs
  · exact h
  · exact (writerReady_evaluateGrants (s := { s with permit := prm, permitStab := 0 }) hqueue h).1
  · exact h

/-- Steps 1 to 7 of a tick leave the writer in order. -/
theorem writerReady_beforeDrain {prm : Bool} {ev : Half} {s : State} (hqueue : s.recorder.queue = [])
    (he : 1 ≤ s.supervisor.e) (h : WriterReady s) : WriterReady (beforeDrain prm ev s) := by
  have hpermit : permitStep prm (tickStarted prm ev s) = afterPermit prm ev s := permitStep_tickStarted hqueue
  have hkept : 1 ≤ (afterPermit prm ev s).supervisor.e := by
    rw [← hpermit, show (permitStep prm (tickStarted prm ev s)).supervisor = s.supervisor by simp [tickStarted]]
    exact he
  unfold beforeDrain
  rw [← holdStep_eq_afterHoldTick, ← sampleStep_eq_afterSampling, ← dwellStep_eq_afterDwell, ← inputsStep_eq,
    ← supervisorStep_eq_afterSupervisor hkept, ← hpermit]
  exact writerReady_of_offersOnly (writerReady_permitStep prm (s := tickStarted prm ev s) hqueue h)
    (offersOnly_steps ev _)

/-! ## The fields that are one step's own -/

theorem permitFlips_iff (prm : Bool) (s : State) : permitFlips prm s = true ↔ prm ≠ s.permit ∧ s.permitStab = 7 := by
  unfold permitFlips
  rw [decide_eq_true_iff]

theorem permitStep_permit (prm : Bool) (s : State) :
    (permitStep prm s).permit = (if permitFlips prm s then prm else s.permit) ∧
    (permitStep prm s).permitStab = (if prm = s.permit ∨ permitFlips prm s = true then 0 else s.permitStab + 1) := by
  unfold permitStep
  rw [if_congr (permitFlips_iff prm s) rfl rfl]
  simp only [permitFlips_iff]
  by_cases hsame : prm = s.permit
  · simp [hsame]
  · by_cases hfull : s.permitStab = 7
    · simp only [hsame, hfull, if_true, if_false, not_false_eq_true, and_self, or_true, ne_eq, evaluateGrants_keeps]
    · simp only [hsame, hfull, if_false, and_false, or_self, and_self]

theorem supervised_e (w : Supervisor) : (supervised w).e = w.e := by
  unfold supervised
  split_ifs <;> rfl

theorem counted_outPins (offered : Fin 45 → Bool) (s : State) : (counted offered s).outPins = s.outPins := by
  unfold counted
  dsimp only

/-- No warning is given while the pulse is driven (R159, R161). -/
theorem pulseEnds_of_warns {w : Supervisor} (h : warns w = true) : pulseEnds w = false := by
  unfold warns at h
  unfold pulseEnds
  cases hphase : w.phase <;> simp_all [bne]

theorem supervisorStep_fields {s : State} (he : 1 ≤ s.supervisor.e) :
    (supervisorStep s).supervisor = supervised s.supervisor ∧
    (supervisorStep s).outPins = { s.outPins with
      hrstLow := (if fires s.supervisor then true else if pulseEnds s.supervisor then false
        else s.outPins.hrstLow) } := by
  rw [supervisorStep_eq_afterSupervisor he]
  unfold afterSupervisor
  dsimp only
  cases hfires : fires s.supervisor with
  | true =>
    simp only [if_true]
    split_ifs <;> simp [counted_supervisor, counted_outPins]
  | false =>
    cases hwarns : warns s.supervisor with
    | true =>
      have hends : pulseEnds s.supervisor = false := pulseEnds_of_warns hwarns
      simp only [hends, if_true, Bool.false_eq_true, if_false]
      split_ifs <;> simp
    | false => cases hends : pulseEnds s.supervisor <;> exact ⟨rfl, rfl⟩

theorem inputStep_inputs (ev : Half) (n : Fin 16) (s : State) : (inputStep ev n s).inputs =
    s.inputs.set n.val (conditioned (candidateOf (ev.getLsbD n) s.inputs[n]) s.inputs[n]) := by
  rw [← step_eq_conditioned]
  unfold inputStep qualifiedEdge offerEvent
  dsimp only
  split_ifs <;> simp

/-- The inputs after step 4 over some of them (R51). -/
theorem inputs_foldl_inputStep (ev : Half) (l : List (Fin 16)) (hl : l.Nodup) (s : State) (n : Fin 16) :
    (l.foldl (fun t m => inputStep ev m t) s).inputs[n] =
      if n ∈ l then conditioned (candidateOf (ev.getLsbD n) s.inputs[n]) s.inputs[n] else s.inputs[n] := by
  induction l generalizing s with
  | nil => simp
  | cons m l ih =>
    rw [List.nodup_cons] at hl
    rw [List.foldl_cons, ih hl.2, inputStep_inputs]
    by_cases hm : n = m
    · subst hm
      simp [hl.1]
    · have hval : m.val ≠ n.val := fun h => hm (Fin.ext h.symm)
      simp [hm, hval, Vector.getElem_set_ne]

theorem inputsStep_inputs (ev : Half) (s : State) (n : Fin 16) : (inputsStep ev s).inputs[n] =
    conditioned (candidateOf (ev.getLsbD n) s.inputs[n]) s.inputs[n] := by
  unfold inputsStep
  rw [inputs_foldl_inputStep ev allInputs (by decide) s n, if_pos (mem_allInputs n)]

theorem holdStep_hold (s : State) : (holdStep s).hold = heldOn s.hold := by
  unfold holdStep heldOn
  split_ifs
  · exact endHold_hold s
  · rfl
  · rfl

end Sys2Proof.Machine
end

section
/-! SUPPORT. The tick as a whole state (R44), and the events that are one step of it (R114, R159 to R161). -/

namespace Sys2Proof.Machine

open Sys2Proof.Safety

theorem evalAlert_eq (s : State) : evalAlert s =
    { s with outPins := { s.outPins with alertLow := (evalAlert s).outPins.alertLow } } := by
  unfold evalAlert
  dsimp only

theorem pinSet_evalAlert (s : State) : PinSet (evalAlert s) := rfl

theorem execTick_of_ticking {s : State} (htick : ticking s = true) (prm : Bool) (ev : Half) :
    exec (.tick prm ev) s = .next (tickSteps prm ev s) := by
  show Host.Outcome.next _ = _
  rw [if_pos htick]

/-- Steps 1 to 7 of a tick, before the drain. -/
def tickMiddle (prm : Bool) (ev : Half) (s : State) : State :=
  holdStep (sampleStep (dwellStep (inputsStep ev (supervisorStep (permitStep prm (tickStarted prm ev s))))))

theorem tickSteps_eq_drain (prm : Bool) (ev : Half) (s : State) :
    tickSteps prm ev s = evalAlert (drain (tickMiddle prm ev s)) := rfl

/-- What no tick touches. -/
theorem tickSteps_rest (prm : Bool) (ev : Half) (s : State) :
    let t := tickSteps prm ev s
    t.pending = s.pending ∧ t.straps = s.straps ∧ t.link = s.link ∧ t.life = s.life ∧ t.power = s.power ∧
    t.episode = s.episode ∧ t.resetCause = s.resetCause ∧ t.resetCount = s.resetCount ∧ t.sweep = s.sweep ∧
    t.lastResult = s.lastResult ∧ t.locked = s.locked ∧ t.prescaler = s.prescaler ∧ t.grantMask = s.grantMask ∧
    t.guardMask = s.guardMask ∧ t.freeze = s.freeze ∧ t.directory = s.directory ∧ t.window = s.window ∧
    t.inPins = { s.inPins with prm := prm, ev := ev } ∧ t.timebase = s.timebase + 1 ∧ t.divider = 0 ∧
    t.counters.wrapAlert = s.counters.wrapAlert ∧ t.alerts.mask = s.alerts.mask ∧
    t.recorder.config = s.recorder.config := by
  rw [tickSteps_eq_drain]
  simp [tickMiddle, tickStarted]

theorem tickSteps_filters (prm : Bool) (ev : Half) (s : State) :
    let t := tickSteps prm ev s
    t.permit = (if permitFlips prm s then prm else s.permit) ∧
    t.permitStab = (if prm = s.permit ∨ permitFlips prm s = true then 0 else s.permitStab + 1) ∧
    (∀ n : Fin 16, t.inputs[n] = conditioned (candidateOf (ev.getLsbD n) s.inputs[n]) s.inputs[n]) ∧
    t.hold = heldOn s.hold ∧ t.recorder.queue = [] := by
  obtain ⟨hpermit, hstab⟩ := permitStep_permit prm (tickStarted prm ev s)
  rw [show permitFlips prm (tickStarted prm ev s) = permitFlips prm s from rfl,
    show (tickStarted prm ev s).permit = s.permit from rfl,
    show (tickStarted prm ev s).permitStab = s.permitStab from rfl] at hstab
  rw [show permitFlips prm (tickStarted prm ev s) = permitFlips prm s from rfl,
    show (tickStarted prm ev s).permit = s.permit from rfl] at hpermit
  rw [tickSteps_eq_drain]
  refine ⟨?_, ?_, fun n => ?_, ?_, ?_⟩
  · simpa [tickMiddle] using hpermit
  · simpa [tickMiddle] using hstab
  · have hinputs := inputsStep_inputs ev (supervisorStep (permitStep prm (tickStarted prm ev s))) n
    simpa [tickMiddle, tickStarted] using hinputs
  · have hhold := holdStep_hold (sampleStep (dwellStep (inputsStep ev (supervisorStep
      (permitStep prm (tickStarted prm ev s))))))
    simpa [tickMiddle, tickStarted] using hhold
  · simp

theorem tickSteps_supervisor (prm : Bool) (ev : Half) {s : State} (he : 1 ≤ s.supervisor.e) :
    let t := tickSteps prm ev s
    t.supervisor = supervised s.supervisor ∧
    t.outPins.hrstLow =
      (if fires s.supervisor then true else if pulseEnds s.supervisor then false else s.outPins.hrstLow) ∧
    t.outPins.rdy = s.outPins.rdy := by
  have hsame : (permitStep prm (tickStarted prm ev s)).supervisor = s.supervisor := by simp [tickStarted]
  have hpins : (permitStep prm (tickStarted prm ev s)).outPins = s.outPins := by simp [tickStarted]
  obtain ⟨hsupervisor, hout⟩ := supervisorStep_fields (s := permitStep prm (tickStarted prm ev s))
    (by rw [hsame]; exact he)
  rw [hsame] at hsupervisor hout
  rw [hpins] at hout
  rw [tickSteps_eq_drain]
  refine ⟨by simpa [tickMiddle] using hsupervisor, ?_, ?_⟩
  · simpa [tickMiddle] using congrArg OutputPins.hrstLow hout
  · simpa [tickMiddle] using congrArg OutputPins.rdy hout

end Sys2Proof.Machine

open Sys2Proof Sys2Proof.Machine Sys2Proof.Safety

/-- Settles O44: each field from the one step that sets it, and the rest from steps 1 to 7 and the drain. -/
theorem tickAdvances : Obligations.TickAdvances := by
  unfold Obligations.TickAdvances
  intro prm ev s htick he flips p
  have hp : p = beforeDrain prm ev s := rfl
  clear_value p
  obtain ⟨hpending, hstraps, hlink, hlife, hpower, hepisode, hcause, hresets, hsweep, hresult, hlocked, hprescaler,
    hgrant, hguard, hfreeze, hdirectory, hwindow, hinPins, htimebase, hdivider, henables, hmask, hconfig⟩ :=
    tickSteps_rest prm ev s
  obtain ⟨hpermit, hstab, hinputs, hhold, hqueue⟩ := tickSteps_filters prm ev s
  obtain ⟨hsupervisor, hhrst, hrdy⟩ := tickSteps_supervisor prm ev he
  refine ⟨_, execTick_of_ticking htick prm ev, fun hempty hready => ?_, htimebase, hdivider, hpermit,
    hstab, hinputs, hsupervisor, hhrst, hhold, hqueue, ?_, ?_⟩
  · have hbefore : WriterReady p := by
      rw [hp]
      exact writerReady_beforeDrain hempty he hready
    have hsteps : tickSteps prm ev s = evalAlert (drain p) := by
      rw [hp]
      exact tickSteps_eq hempty he
    rw [hsteps]
    exact ⟨drain p, drains_drain hbefore, evalAlert_eq _⟩
  · rw [tickSteps_eq_drain]
    exact pinSet_evalAlert _
  · rw [← hpending, ← hstraps, ← hlink, ← hlife, ← hpower, ← hepisode, ← hcause, ← hresets, ← hsweep, ← hresult,
      ← hlocked, ← hprescaler, ← hgrant, ← hguard, ← hfreeze, ← hdirectory, ← hwindow, ← hinPins]
    dsimp only
    rw [← henables, ← hmask, ← hconfig, ← hrdy]

end

section
/-! SUPPORT. The events that are one step of a tick, each at the tick at which it comes about (R52, R114, R159 to R161). -/

namespace Sys2Proof.Machine

open Sys2Proof.Safety

/-! ## When the supervisor's events are due -/

theorem state_running_eq (w : Supervisor) : w.running = (w.state == .openWatch || w.state == .watch) := by
  unfold Supervisor.running
  cases w.state <;> rfl

theorem fires_of_warns_false {w : Supervisor} (he : 1 ≤ w.e) (h : warns w = true) : fires w = false := by
  unfold warns at h
  unfold fires
  simp only [Bool.and_eq_true, beq_iff_eq] at h
  rw [h.2, beq_eq_false_iff_ne.mpr (half_ne_whole he), Bool.and_false]

/-- While the pulse is driven the supervisor neither warns nor fires (R159, R161). -/
theorem quiet_of_pulseEnds {w : Supervisor} (h : pulseEnds w = true) : fires w = false ∧ warns w = false := by
  unfold pulseEnds at h
  unfold fires warns
  cases hphase : w.phase <;> simp_all [bne]

theorem counted_shape (offered : Fin 45 → Bool) (s : State) : ∃ counters raised,
    counted offered s = { s with counters := counters, alerts := { s.alerts with raised := raised } } := by
  unfold counted
  exact ⟨_, _, rfl⟩

theorem warnDue_eq (s : State) : warnDue s = warns s.supervisor := by
  unfold warnDue warns Supervisor.counts
  rw [state_running_eq]

theorem fireDue_eq {s : State} (he : 1 ≤ s.supervisor.e) : fireDue s = fires s.supervisor := by
  unfold fireDue fires Supervisor.counts
  rw [state_running_eq]
  by_cases hwhole : s.supervisor.count + 1 = 2 ^ s.supervisor.e
  · rw [hwhole, bne_iff_ne.mpr (half_ne_whole he).symm, Bool.and_true]
  · rw [beq_eq_false_iff_ne.mpr hwhole, Bool.and_false, Bool.false_and]

theorem pulseEndDue_eq (s : State) : pulseEndDue s = pulseEnds s.supervisor := by
  unfold pulseEndDue pulseEnds
  rw [state_running_eq, decide_eq_decide.mpr (pulse_le_one_iff _)]

/-! ## One event of a tick -/

theorem execWdWarn_eq {s : State} (htick : ticking s = true) (he : 1 ≤ s.supervisor.e) : exec .wdWarn s =
    .next (if warns s.supervisor then afterSupervisor s else s) := by
  show Host.Outcome.next _ = _
  rw [htick, warnDue_eq, Bool.true_and, supervisorStep_eq_afterSupervisor he]

theorem execWdFired_eq {s : State} (htick : ticking s = true) (he : 1 ≤ s.supervisor.e) : exec .wdFired s =
    .next (if fires s.supervisor then afterSupervisor s else s) := by
  show Host.Outcome.next _ = _
  rw [htick, fireDue_eq he, Bool.true_and, supervisorStep_eq_afterSupervisor he]

theorem execPulseEnd_eq {s : State} (htick : ticking s = true) (he : 1 ≤ s.supervisor.e) : exec .pulseEnd s =
    .next (if pulseEnds s.supervisor then afterSupervisor s else s) := by
  show Host.Outcome.next _ = _
  rw [htick, pulseEndDue_eq, Bool.true_and, supervisorStep_eq_afterSupervisor he]

/-- A record offered, or none, where nothing waits. -/
theorem offerIf_of_nothing (p : Prop) [Decidable p] (r : Rec) {s : State} (h : NothingWaits s) :
    (if p then offer r s else s) =
      { s with recorder := { s.recorder with queue := if p then [r] else [] } } := by
  split_ifs
  · exact offer_of_nothing r h
  · rw [← h.1]

theorem execInputEdge_eq {s : State} (htick : ticking s = true) (n : Fin 16) (raw : Bool) : exec (.inputEdge n raw) s =
    .next (if hasEdge raw s.inputs[n] then afterInput (if raw then BitVec.allOnes 16 else 0) s n else s) := by
  show Host.Outcome.next _ = _
  rw [htick, edges_eq, Bool.true_and, inputStep_eq_afterInput]

theorem getLsbD_rawLevels (raw : Bool) (n : Fin 16) :
    (if raw then BitVec.allOnes 16 else 0 : Half).getLsbD n = raw := by
  cases raw
  · exact BitVec.getLsbD_zero
  · rw [if_pos rfl, BitVec.getLsbD_allOnes, decide_eq_true n.isLt]

/-- At an edge the conditioner takes the candidate level (R52). -/
theorem conditioned_of_edge {raw : Bool} {c : Conditioner} (h : hasEdge raw c = true) :
    conditioned (candidateOf raw c) c = { c with level := candidateOf raw c, stab := 0 } := by
  unfold hasEdge at h
  simp only [Bool.and_eq_true, bne_iff_ne, ne_eq, decide_eq_true_iff] at h
  obtain ⟨⟨hseeded, hlevel⟩, hfull⟩ := h
  unfold conditioned
  rw [if_neg (by rw [hseeded]; decide), if_neg hlevel, if_neg (Nat.not_lt.mpr hfull)]

theorem sampleDue_iff (s : State) :
    sampleDue s = true ↔ s.units.recorder = .running ∧ s.recorder.countdown = some 1 := by
  unfold sampleDue
  rw [Bool.and_eq_true, recording_iff, beq_iff_eq]

end Sys2Proof.Machine

open Sys2Proof Sys2Proof.Machine Sys2Proof.Safety

/-- Settles O46: each row is step 3 of its tick where it is due. -/
theorem supervisorEvents : Obligations.SupervisorEvents := by
  unfold Obligations.SupervisorEvents
  intro s htick he hnothing w offered
  rw [execWdWarn_eq htick he, execWdFired_eq htick he, execPulseEnd_eq htick he]
  refine ⟨fun hwarns => ?_, fun hfires => ?_, fun hends => ?_, fun hquiet => ?_, fun hquiet => ?_, fun hquiet => ?_⟩
  case refine_4 => rw [show warns s.supervisor = false from hquiet]; rfl
  case refine_5 => rw [show fires s.supervisor = false from hquiet]; rfl
  case refine_6 => rw [show pulseEnds s.supervisor = false from hquiet]; rfl
  · have hnotFires : fires s.supervisor = false := fires_of_warns_false he hwarns
    rw [if_pos hwarns]
    unfold afterSupervisor
    dsimp only
    rw [hnotFires, if_neg (by decide), if_pos hwarns, offerIf_of_nothing _ _ (by exact hnothing), supervised_e]
  · rw [if_pos hfires]
    unfold afterSupervisor
    dsimp only
    rw [if_pos hfires]
    obtain ⟨counters, raised, hshape⟩ := counted_shape (fun k => k == 39) { s with
      supervisor := supervised s.supervisor
      outPins := { s.outPins with hrstLow := true }
      alerts := { s.alerts with raised := s.alerts.raised ||| 0x80 } }
    have hcounted := counted_counted_self 39 { s with
      supervisor := supervised s.supervisor
      outPins := { s.outPins with hrstLow := true }
      alerts := { s.alerts with raised := s.alerts.raised ||| 0x80 } }
    rw [hshape] at hcounted ⊢
    rw [offerIf_of_nothing _ _ (by exact hnothing), supervised_e]
    exact ⟨_, rfl, counted_congr hcounted rfl rfl rfl, rfl⟩
  · obtain ⟨hnotFires, hnotWarns⟩ := quiet_of_pulseEnds hends
    rw [if_pos hends]
    unfold afterSupervisor
    dsimp only
    rw [hnotFires, if_neg (by decide), hnotWarns, if_neg (by decide), if_pos hends]

/-- Settles O47: the row is the part of step 4 that is one input's. -/
theorem inputEdgeCountsAndTriggers : Obligations.InputEdgeCountsAndTriggers := by
  unfold Obligations.InputEdgeCountsAndTriggers
  intro n raw s htick hnothing c rising counts edge count
  rw [execInputEdge_eq htick]
  refine ⟨fun hedge => ?_, fun hquiet => ?_⟩
  · rw [if_pos hedge]
    unfold afterInput
    dsimp only
    rw [getLsbD_rawLevels, conditioned_of_edge hedge, show hasEdge raw s.inputs[n] = true from hedge, Bool.true_and]
    cases hcounts : counts with
    | false =>
      rw [if_neg (by rw [show qualified _ _ = false from hcounts]; decide)]
      refine ⟨_, rfl, counted_of_none_offered _ fun _ => rfl, ?_⟩
      rw [if_neg fun h => absurd h.1 (by decide), ← hnothing.1]
    | true =>
      rw [if_pos (by exact hcounts)]
      obtain ⟨counters, raised, hshape⟩ := counted_shape (fun k => k.val == n.val)
        { s with inputs := s.inputs.set n.val { c with level := rising, stab := 0 } }
      have hcounted := counted_counted_self (edgeCounter n)
        { s with inputs := s.inputs.set n.val { c with level := rising, stab := 0 } }
      rw [edgeCounter_eq] at hcounted
      rw [hshape] at hcounted ⊢
      have hvalue : (if s.units.edge = .running then (counters.value[n.val]).setWidth 16 else 0) = count := by
        refine if_ctx_congr Iff.rfl (fun hrunning => ?_) fun _ => rfl
        have hbank : bankOf edge = .edge := if_pos n.isLt
        have hcounts : Running edge s := by
          show s.units.bank (bankOf edge) = .running
          rw [hbank]
          exact hrunning
        have hstep := hcounted.1 edge
        rw [if_pos ⟨beq_self_eq_true n.val, hcounts⟩] at hstep
        exact congrArg (BitVec.setWidth 16) hstep
      rw [offerIf_of_nothing _ _ (by exact hnothing)]
      dsimp only
      rw [hvalue]
      have hset : (fun k : Fin 45 => true && k == edge) = fun k => k.val == n.val := by
        rw [← edgeCounter_eq n]
        exact funext fun k => Bool.true_and _
      refine ⟨_, rfl, ?_, ?_⟩
      · rw [hset]
        exact counted_congr hcounted rfl rfl rfl
      · simp only [true_and]
        rfl
  · rw [if_neg (by rw [show hasEdge raw s.inputs[n] = false from hquiet]; decide)]

/-- Settles O48: the row is step 6 of the tick at which the countdown ends. -/
theorem samplingPointSnapsOrDefers : Obligations.SamplingPointSnapsOrDefers := by
  unfold Obligations.SamplingPointSnapsOrDefers
  intro s htick hnothing due again
  have hexec : exec .samplingPoint s = .next (if sampleDue s then afterSampling s else s) := by
    show Host.Outcome.next _ = _
    rw [htick, Bool.true_and, sampleStep_eq_afterSampling]
  have hpoint (hdue : due) : afterSampling s = if s.recorder.config.snap = false then { s with recorder := again }
      else if s.hold.active then { s with recorder := { again with
        deferred := true
        missed := if s.recorder.deferred = false then s.recorder.missed
          else if s.recorder.missed = 15 then 15 else s.recorder.missed + 1 } }
      else { s with recorder := { again with
        queue := [snapshotRecord false 0 s], snapSeq := s.recorder.snapSeq + 1 } } := by
    obtain ⟨hrunning, hcountdown⟩ := hdue
    unfold afterSampling
    rw [if_neg (not_not.mpr hrunning), hcountdown]
    dsimp only
    rw [if_neg (not_not.mpr rfl), offer_of_nothing _ (by exact hnothing)]
    rfl
  have hrow (hdue : due) : exec .samplingPoint s = .next (afterSampling s) := by
    rw [hexec, if_pos ((sampleDue_iff s).2 hdue)]
  refine ⟨fun hdue hsnap => ?_, fun hdue hsnap hheld => ?_, fun hdue hsnap hheld => ?_, fun hdue => ?_⟩
  · rw [hrow hdue, hpoint hdue, if_pos hsnap]
  · rw [hrow hdue, hpoint hdue, if_neg (by rw [hsnap]; decide), if_pos hheld]
  · rw [hrow hdue, hpoint hdue, if_neg (by rw [hsnap]; decide), if_neg (by rw [hheld]; decide)]
  · rw [hexec, if_neg (by rwa [sampleDue_iff])]

end

section
/-! SUPPORT. The ends of a hold and the wake (R35, R36, R166, R167): one record offered, and the drain. -/

namespace Sys2Proof.Machine

open Sys2Proof.Safety

/-! ## The drain where one record or none waits -/

theorem drain_of_empty {s : State} (h : s.recorder.queue = []) : drain s = s := by
  rw [drain, h, drainList, ← h]

/-- One waiting record that fits is placed (R118, R119). -/
theorem places_drain {r : Rec} {s : State} (hqueue : s.recorder.queue = [r]) (hwf : s.capture.wf 65536)
    (hroom : HasRoom r.bytes.length s) :
    Places r.bytes { s with recorder := { s.recorder with queue := [] } } (drain s) := by
  obtain ⟨hplaced, hblocked, hfits⟩ := hroom
  rw [drain_of_single hqueue]
  generalize hrest : { s with recorder := { s.recorder with queue := [] } } = t
  have hcursor : t.recorder.cursor = s.recorder.cursor := by rw [← hrest]
  have hcapture : t.capture.wf 65536 := by rw [← hrest]; exact hwf
  have hhandles := handles_handleRecord r hcapture (by rw [hcursor]; omega) (by rw [hcursor]; exact hplaced)
  unfold Handles at hhandles
  dsimp only at hhandles
  rw [hcursor] at hhandles
  rwa [if_neg (by rw [hblocked]; decide), if_pos hfits] at hhandles

/-! ## The two ends of a hold -/

theorem execHoldTickLimit_of_last {s : State} (htick : ticking s = true) (hactive : s.hold.active = true)
    (hlast : s.hold.ticks = 255) : exec .holdTickLimit s = .next (evalAlert (drain (holdEnded s))) := by
  have hstep : holdStep s = holdEnded s := by
    unfold holdStep
    rw [if_pos hactive, if_pos hlast, endHold_eq_holdEnded]
  show Host.Outcome.next _ = _
  rw [if_pos (by rw [htick, hactive, hlast]; rfl), hstep]

theorem snapshotRecord_bytes_length (deferred : Bool) (missed : BitVec 4) {s : State}
    (h : s.recorder.config.extended = false) : (snapshotRecord deferred missed s).bytes.length = 12 := by
  unfold snapshotRecord
  dsimp only
  rw [if_neg (by rw [h]; decide), Rec.bytes, List.length_cons, length_snapFields]

/-! ## The wake -/

/-- The inputs that wake: changed, with their WAKE field on (R58). -/
theorem getLsbD_wakeSources (changed : Half) (s : State) (n : Fin 16) :
    (changed &&& wakeInputs s).getLsbD n.val = (changed.getLsbD n && s.inputs[n].wake) := by
  unfold wakeInputs
  rw [BitVec.getLsbD_and, getLsbD_bitsOf, decide_eq_true n.isLt, Bool.true_and, List.getD_eq_getElem _ _ (by simp)]
  simp

theorem getElem_allInputs (i : Nat) (h : i < allInputs.length) : allInputs[i] = (⟨i, h⟩ : Fin 16) := by
  have hall : ∀ k : Fin 16, allInputs[k.val]'k.isLt = k := by decide
  exact hall ⟨i, h⟩

theorem lowestInput_eq_some_iff (x : Half) (n : Fin 16) :
    lowestInput x = some n ↔ x.getLsbD n.val = true ∧ ∀ m : Fin 16, m < n → x.getLsbD m.val = false := by
  unfold lowestInput
  rw [List.find?_eq_some_iff_getElem]
  refine and_congr_right fun _ => ?_
  constructor
  · rintro ⟨i, hi, heq, hbefore⟩ m hm
    rw [getElem_allInputs] at heq
    have hlt : m.val < i := by rw [← heq] at hm; exact hm
    have hm' := hbefore m.val hlt
    rw [getElem_allInputs] at hm'
    exact Bool.not_eq_true' _ ▸ hm'
  · intro hbefore
    refine ⟨n.val, n.isLt, getElem_allInputs _ _, fun j hj => ?_⟩
    rw [getElem_allInputs, Bool.not_eq_true']
    exact hbefore ⟨j, _⟩ hj

theorem lowestInput_eq_none_iff (x : Half) : lowestInput x = none ↔ ∀ m : Fin 16, x.getLsbD m.val = false := by
  unfold lowestInput
  rw [List.find?_eq_none]
  simp [mem_allInputs]

/-- The bytes of a wake's record (R99). -/
theorem resumeBytes_eq (host : Bool) (input : BitVec 4) (s : State) :
    (Rec.resume host input s.episode (s.timebase.setWidth 32)).bytes =
      [0x62, if host then 1 else 2, BitVec.ofNat 8 input.toNat, s.episode] ++
        (List.range 4).map fun i => s.timebase.extractLsb' (8 * i) 8 := by
  rw [bytes_resume, show s.timebase.setWidth 32 = timestamp s from rfl, byteAt_timestamp s (by omega),
    byteAt_timestamp s (by omega), byteAt_timestamp s (by omega), byteAt_timestamp s (by omega)]
  rfl

/-- The state at the wake, before its record (R167, step 1). -/
def woken (changed : Half) (s : State) : State :=
  { s with power := .run, divider := 0, inPins := { s.inPins with ev := s.inPins.ev ^^^ changed } }

theorem wakeUp_eq (host : Bool) (input : BitVec 4) (changed : Half) (s : State) :
    wakeUp host input { s with inPins := { s.inPins with ev := s.inPins.ev ^^^ changed } } =
      evalAlert (drain (if s.units.recorder = .running
        then offer (.resume host input s.episode (s.timebase.setWidth 32)) (woken changed s) else woken changed s)) := by
  unfold wakeUp
  dsimp only
  rw [if_congr (recording_iff _) rfl rfl]
  rfl

/-- A source that is watched: a transaction's start while none is open, or a WAKE-enabled input (R58, R166). -/
theorem execWake_of_host {host : Bool} {changed : Half} {s : State} (hup : linkUp s = true)
    (hstandby : s.power = .standby) (hhost : host = true ∧ s.link.parser = .idle) : exec (.wake host changed) s =
      .next (wakeUp true 0 { s with inPins := { s.inPins with ev := s.inPins.ev ^^^ changed } }) := by
  show Host.Outcome.next _ = _
  dsimp only
  rw [if_pos (by simp [hup, hstandby]), if_pos (by simp [hhost])]

theorem execWake_of_input {host : Bool} {changed : Half} {n : Fin 16} {s : State} (hup : linkUp s = true)
    (hstandby : s.power = .standby) (hhost : ¬(host = true ∧ s.link.parser = .idle))
    (hlowest : lowestInput (changed &&& wakeInputs s) = some n) : exec (.wake host changed) s =
      .next (wakeUp false (BitVec.ofNat 4 n.val) { s with inPins := { s.inPins with ev := s.inPins.ev ^^^ changed } }) := by
  show Host.Outcome.next _ = _
  dsimp only
  rw [if_pos (by simp [hup, hstandby]), if_neg (by simpa using hhost)]
  rw [hlowest]

theorem execWake_of_none {host : Bool} {changed : Half} {s : State}
    (h : linkUp s = false ∨ s.power = .run ∨
      (¬(host = true ∧ s.link.parser = .idle) ∧ lowestInput (changed &&& wakeInputs s) = none)) :
    exec (.wake host changed) s = .next { s with inPins := { s.inPins with ev := s.inPins.ev ^^^ changed } } := by
  show Host.Outcome.next _ = _
  dsimp only
  rcases h with hdown | hawake | ⟨hhost, hnone⟩
  · rw [if_neg (by simp [hdown])]
  · rw [if_neg (by simp [hawake, beq_eq_decide])]
  · split_ifs with hwatched hstart
    · exact absurd (by simpa using hstart) hhost
    · rw [hnone]
    · rfl

end Sys2Proof.Machine

open Sys2Proof Sys2Proof.Machine Sys2Proof.Safety

/-- Settles O49: both rows end the hold, drain the queue and evaluate ALERT#. -/
theorem holdEndEvents : Obligations.HoldEndEvents := by
  unfold Obligations.HoldEndEvents
  intro c s hcase hactive ended p
  have hexec : exec c s = .next (evalAlert (drain p)) := by
    rcases hcase with ⟨rfl, htick, hlast⟩ | ⟨rfl, hup, hone⟩
    · exact execHoldTickLimit_of_last htick hactive hlast
    · rw [execHoldCommandsDone_of_one hup hactive hone, endHold_eq_holdEnded]
  have hp : endHold s = p := endHold_eq_holdEnded s
  refine ⟨fun hready => ?_, fun hqueue hnone => ?_, fun hdeferred hrunning => ?_,
    fun hdeferred hrunning hplain hnothing hroom hwf => ?_⟩
  · have hafter : WriterReady p := hp ▸ writerReady_of_offersOnly hready (offersOnly_endHold s)
    clear_value p
    exact ⟨_, hexec, pinSet_evalAlert _, drain p, drains_drain hafter, evalAlert_eq _⟩
  · have hkept : p = { s with hold := ended, recorder := { s.recorder with
        deferred := false, missed := if s.recorder.deferred then 0 else s.recorder.missed } } := by
      show holdEnded s = _
      have hoffers : ¬(s.recorder.deferred = true ∧ s.units.recorder = .running) := fun h =>
        hnone.elim (fun hfalse => absurd h.1 (by rw [hfalse]; decide)) fun hidle => hidle h.2
      unfold holdEnded
      dsimp only
      rw [if_neg hoffers, if_neg hoffers]
    rw [hexec, drain_of_empty (by rw [hkept]; exact hqueue), hkept]
    have hwanted : (s.alerts.raised &&& s.alerts.mask != 0) = decide (s.alerts.raised &&& s.alerts.mask ≠ 0) := by
      simp [bne, beq_eq_decide]
    rw [← hwanted]
    rfl
  · have hseq : p.recorder.snapSeq = s.recorder.snapSeq + 1 ∧ p.recorder.missed = 0 ∧ p.recorder.deferred = false := by
      show (holdEnded s).recorder.snapSeq = _ ∧ (holdEnded s).recorder.missed = _ ∧ (holdEnded s).recorder.deferred = _
      unfold holdEnded
      dsimp only
      have hsnaps : s.recorder.deferred = true ∧ s.units.recorder = .running := ⟨hdeferred, hrunning⟩
      rw [if_pos hsnaps, hdeferred]
      exact ⟨rfl, rfl, rfl⟩
    obtain ⟨hsnap, hmissed, hdone⟩ := hseq
    have hhold : p.hold = ended := hp ▸ endHold_hold s
    refine ⟨_, hexec, ?_, ?_, ?_, ?_, ?_, pinSet_evalAlert _⟩
    · simpa using hhold
    · simpa using hdone
    · simpa using hmissed
    · simp
    · simpa using hsnap
  · have hlength := snapshotRecord_bytes_length true s.recorder.missed hplain
    have hkept : p = { s with hold := ended, recorder := { s.recorder with
        deferred := false, missed := 0, queue := [snapshotRecord true s.recorder.missed s]
        snapSeq := s.recorder.snapSeq + 1 } } := by
      show holdEnded s = _
      unfold holdEnded
      dsimp only
      have hsnaps : s.recorder.deferred = true ∧ s.units.recorder = .running := ⟨hdeferred, hrunning⟩
      rw [if_pos hsnaps, if_pos hsnaps, hdeferred, offer_of_nothing _ (by exact hnothing)]
      rfl
    have hplaces := places_drain (r := snapshotRecord true s.recorder.missed s) (s := p) (by rw [hkept])
      (by rw [hkept]; exact hwf) (by rw [hkept, hlength]; exact hroom)
    rw [hexec]
    generalize drain p = t at *
    rw [hkept] at hplaces
    obtain ⟨hcounted, hplaced, heq⟩ := hplaces
    refine ⟨_, rfl, ?_, ?_, ?_⟩
    · exact counted_congr hcounted rfl rfl rfl
    · exact hplaced
    · have halert := evalAlert_eq t
      generalize (evalAlert t).outPins.alertLow = low at halert
      rw [halert, heq, hlength]
      dsimp only
      rw [hnothing.1]

/-- Settles O50: a wake is the source's, and its record is offered and drained at once. -/
theorem wakeResumes : Obligations.WakeResumes := by
  unfold Obligations.WakeResumes
  intro host changed n s hosted input sourced
  have hinput (h : input) : lowestInput (changed &&& wakeInputs s) = some n := by
    obtain ⟨hchanged, hwake, hfirst⟩ := h
    rw [lowestInput_eq_some_iff]
    refine ⟨by rw [getLsbD_wakeSources, hchanged, hwake]; rfl, fun m hm => ?_⟩
    rw [getLsbD_wakeSources, Bool.eq_false_iff, ne_eq, Bool.and_eq_true]
    exact hfirst m hm
  have hsourced : ¬sourced → lowestInput (changed &&& wakeInputs s) = none := by
    intro hnot
    rw [lowestInput_eq_none_iff]
    intro m
    rw [getLsbD_wakeSources, Bool.eq_false_iff, ne_eq, Bool.and_eq_true]
    exact fun h => hnot ⟨m, h⟩
  have hwoken (hup : linkUp s = true) (hstandby : s.power = .standby) (hsource : hosted ∨ input) :
      exec (.wake host changed) s = .next (evalAlert (drain (if s.units.recorder = .running
        then offer (.resume (host && s.link.parser == .idle) (if hosted then 0 else BitVec.ofNat 4 n.val) s.episode
          (s.timebase.setWidth 32)) (woken changed s) else woken changed s))) := by
    by_cases hhost : hosted
    · have hbit : (host && s.link.parser == .idle) = true := by simp [hhost.1, hhost.2]
      rw [execWake_of_host hup hstandby hhost, wakeUp_eq, hbit, if_pos hhost]
    · have hbit : (host && s.link.parser == .idle) = false := by
        rw [Bool.eq_false_iff, ne_eq, Bool.and_eq_true, beq_iff_eq]
        exact hhost
      rw [execWake_of_input hup hstandby hhost (hinput (hsource.resolve_left hhost)), wakeUp_eq, hbit, if_neg hhost]
  have hplaced (hup : linkUp s = true) (hstandby : s.power = .standby) (hsource : hosted ∨ input)
      (hnothing : NothingWaits s) (hroom : HasRoom 8 s) (hwf : s.capture.wf 65536) (hrunning : s.units.recorder = .running)
      {bytes : List Byte} (hbytes : (Rec.resume (host && s.link.parser == .idle)
        (if hosted then 0 else BitVec.ofNat 4 n.val) s.episode (s.timebase.setWidth 32)).bytes = bytes)
      (hlength : bytes.length = 8) :
      ∃ t, exec (.wake host changed) s = .next t ∧ WokenWith bytes changed s t := by
    rw [hwoken hup hstandby hsource, if_pos hrunning, offer_of_nothing _ (by exact hnothing)]
    generalize Rec.resume _ _ _ _ = r at hbytes ⊢
    have hplaces := places_drain (r := r) (s := { woken changed s with
      recorder := { (woken changed s).recorder with queue := [r] } }) rfl hwf (by rw [hbytes, hlength]; exact hroom)
    rw [hbytes] at hplaces
    generalize drain _ = t at hplaces ⊢
    obtain ⟨hcounted, hplaced, heq⟩ := hplaces
    refine ⟨_, rfl, counted_congr hcounted rfl rfl rfl, pinSet_evalAlert _, hplaced, ?_⟩
    have halert := evalAlert_eq t
    generalize (evalAlert t).outPins.alertLow = low at halert
    rw [halert, heq, hlength]
    dsimp only [woken]
    rw [hnothing.1]
  refine ⟨fun h => ?_, fun hup hstandby hsource hqueue hidle => ?_, fun hup hstandby hsource hready hrunning => ?_,
    fun hup hstandby hhost hnothing hroom hwf hrunning => ?_,
    fun hup hstandby hhost hin hnothing hroom hwf hrunning => ?_⟩
  · refine execWake_of_none (h.imp_right (Or.imp_right fun hnone => ⟨hnone.1, hsourced hnone.2⟩))
  · obtain ⟨host', input', hexec⟩ : ∃ host' input', exec (.wake host changed) s =
        .next (wakeUp host' input' { s with inPins := { s.inPins with ev := s.inPins.ev ^^^ changed } }) := by
      by_cases hhost : hosted
      · exact ⟨_, _, execWake_of_host hup hstandby hhost⟩
      · cases hlowest : lowestInput (changed &&& wakeInputs s) with
        | some m => exact ⟨_, _, execWake_of_input hup hstandby hhost hlowest⟩
        | none =>
          obtain ⟨m, hchanged, hwake⟩ := hsource.resolve_left hhost
          have hquiet := (lowestInput_eq_none_iff _).1 hlowest m
          rw [getLsbD_wakeSources, hchanged, hwake] at hquiet
          exact absurd hquiet (by decide)
    rw [hexec, wakeUp_eq, if_neg hidle, drain_of_empty (by exact hqueue)]
    exact ⟨_, rfl, pinSet_evalAlert _, evalAlert_eq _⟩
  · have hexec := hwoken hup hstandby hsource
    rw [if_pos hrunning] at hexec
    exact ⟨_, hexec, pinSet_evalAlert _, _, drains_drain (writerReady_offer (s := woken changed s) hready hrunning),
      evalAlert_eq _⟩
  · refine hplaced hup hstandby (Or.inl hhost) hnothing hroom hwf hrunning ?_ rfl
    have hbit : (host && s.link.parser == .idle) = true := by simp [hhost.1, hhost.2]
    rw [hbit, if_pos hhost, resumeBytes_eq]
    rfl
  · refine hplaced hup hstandby (Or.inr hin) hnothing hroom hwf hrunning ?_ rfl
    have hbit : (host && s.link.parser == .idle) = false := by
      rw [Bool.eq_false_iff, ne_eq, Bool.and_eq_true, beq_iff_eq]
      exact hhost
    have hn : (BitVec.ofNat 4 n.val).toNat = n.val := by
      rw [BitVec.toNat_ofNat]
      exact Nat.mod_eq_of_lt n.isLt
    rw [hbit, if_neg hhost, resumeBytes_eq, hn]
    rfl

end

section
/-! SUPPORT. Which counters a tick counts in (R77, R78, R81): the record queue's and the writer's own counts are all TALLY
counters, so the other three banks take their counts from the supervisor, the edges and the levels alone. -/

namespace Sys2Proof.Machine

open Sys2Proof.Safety

/-! ## The courses of an advance and of an offer -/

/-- Resolution arrives at STOREs in range alone (R124). -/
theorem arrive_of_resolveEntry {d : Memory} {i e : BitVec 6} (h : resolveEntry d i = .arrive e) :
    entryKind d e = .store ∧ runInRange d e = true ∧ entryByte d e 1 = entryByte d e 1 := by
  rw [resolveEntry_eq] at h
  split_ifs at h with hstore hrange
  obtain rfl := Resolution.arrive.inj h
  exact ⟨by rw [entryKind_eq, if_pos hstore], (runInRange_iff d _).2 hrange, rfl⟩

theorem ne_none_of_resolveEntry {d : Memory} {i : BitVec 6} {kind : FaultKind} (h : resolveEntry d i = .fault kind) :
    kind ≠ .none := by
  rw [resolveEntry_eq] at h
  split_ifs at h <;> obtain rfl := Resolution.fault.inj h <;> decide

/-- The courses of an advance (R124): an arrival at the next leaf of the run or at the first leaf of a STORE in range, a
STOP, or a fault. -/
theorem advance_cases (s : State) :
    (∃ entry leaf, advance s = arrive entry leaf s ∧
      ((entry = s.recorder.cursor.entry ∧ leaf = s.recorder.cursor.leaf + 1 ∧
          s.recorder.cursor.leaf.toNat + 1 < runEnd s.directory s.recorder.cursor.entry) ∨
        (entryKind s.directory entry = .store ∧ runInRange s.directory entry = true ∧
          leaf = entryByte s.directory entry 1))) ∨
    (∃ entry, advance s = stopAt entry s) ∨ ∃ kind entry, kind ≠ .none ∧ advance s = faultAt kind entry s := by
  by_cases hnext : s.recorder.cursor.leaf.toNat + 1 < runEnd s.directory s.recorder.cursor.entry
  · exact Or.inl ⟨_, _, if_pos hnext, Or.inl ⟨rfl, rfl, hnext⟩⟩
  by_cases hlast : s.recorder.cursor.entry = 63
  · refine Or.inr (Or.inr ⟨.endOfDirectory, 63, by decide, ?_⟩)
    unfold advance
    dsimp only
    rw [if_neg hnext, if_pos hlast]
  cases hresolved : resolveEntry s.directory (s.recorder.cursor.entry + 1) with
  | arrive e =>
    refine Or.inl ⟨e, _, ?_, Or.inr (arrive_of_resolveEntry hresolved)⟩
    unfold advance
    simp only [if_neg hnext, if_neg hlast, hresolved]
  | stop =>
    refine Or.inr (Or.inl ⟨s.recorder.cursor.entry + 1, ?_⟩)
    unfold advance
    simp only [if_neg hnext, if_neg hlast, hresolved]
  | fault kind =>
    refine Or.inr (Or.inr ⟨kind, s.recorder.cursor.entry + 1, ne_none_of_resolveEntry hresolved, ?_⟩)
    unfold advance
    simp only [if_neg hnext, if_neg hlast, hresolved]

/-- The courses of an offer (R112): lost, enqueued, absorbed into a LOSS record, or behind one. -/
theorem offer_cases (r : Rec) (s : State) :
    (∃ count time, offer r s = countLost { s with recorder := { s.recorder with
      lossCount := count, lossTime := time } }) ∨
    offer r s = enqueue r s ∨
    (∃ count, offer r s = countLost (clearLoss (enqueue (lossRecord count s) s))) ∨
    offer r s = enqueue r (clearLoss (enqueue (lossRecord s.recorder.lossCount s) s)) := by
  unfold offer
  dsimp only
  by_cases hfull : Config.queueDepth ≤ s.recorder.queue.length
  · exact Or.inl ⟨_, _, if_pos hfull⟩
  rw [if_neg hfull]
  by_cases hnone : s.recorder.lossCount = 0
  · exact Or.inr (Or.inl (if_pos hnone))
  rw [if_neg hnone]
  by_cases hlast : s.recorder.queue.length + 1 = Config.queueDepth
  · exact Or.inr (Or.inr (Or.inl ⟨_, if_pos hlast⟩))
  · exact Or.inr (Or.inr (Or.inr (if_neg hlast)))

/-! ## What counts in the TALLY bank alone -/

/-- From `s` to `t` no counter of the EDGE, DWELL and LINK banks has changed. -/
def KeepsCounts (s t : State) : Prop := ∀ k : Fin 45, k.val < 40 → t.counters.value[k] = s.counters.value[k]

theorem KeepsCounts.of_eq {s t : State} (h : t.counters = s.counters) : KeepsCounts s t := fun k _ => by rw [h]

theorem KeepsCounts.trans {s t u : State} (h : KeepsCounts s t) (h' : KeepsCounts t u) : KeepsCounts s u :=
  fun k hk => (h' k hk).trans (h k hk)

theorem keepsCounts_offerCount {c : Fin 45} (hc : 40 ≤ c.val) (s : State) : KeepsCounts s (offerCount c s) := by
  intro k hk
  rw [offerCount_value, if_neg]
  rintro ⟨rfl, -⟩
  omega

theorem keepsCounts_offerCounts {c : Fin 45} (hc : 40 ≤ c.val) (n : Nat) (s : State) :
    KeepsCounts s (offerCounts c n s) := by
  induction n generalizing s with
  | zero => exact .of_eq rfl
  | succ n ih => exact (keepsCounts_offerCount hc s).trans (ih _)

theorem keepsCounts_countLost (s : State) : KeepsCounts s (countLost s) := by
  rw [countLost_eq]
  exact .trans (.of_eq rfl) (keepsCounts_offerCount (by decide) _)

theorem keepsCounts_offer (r : Rec) (s : State) : KeepsCounts s (offer r s) := by
  rcases offer_cases r s with ⟨count, time, h⟩ | h | ⟨count, h⟩ | h <;> rw [h]
  · exact .trans (.of_eq rfl) (keepsCounts_countLost _)
  · exact .of_eq rfl
  · exact .trans (.of_eq rfl) (keepsCounts_countLost _)
  · exact .of_eq rfl

theorem keepsCounts_discardQueue (s : State) : KeepsCounts s (discardQueue s) :=
  .trans (keepsCounts_offerCounts (by decide) _ s) (.of_eq rfl)

theorem keepsCounts_arrive (entry : BitVec 6) (leaf : Byte) (s : State) : KeepsCounts s (arrive entry leaf s) :=
  .of_eq (by simp)

theorem keepsCounts_advance (s : State) : KeepsCounts s (advance s) := by
  rcases advance_cases s with ⟨entry, leaf, h, -⟩ | ⟨entry, h⟩ | ⟨kind, entry, -, h⟩ <;> rw [h]
  · exact keepsCounts_arrive entry leaf s
  · exact .trans (.of_eq rfl) (keepsCounts_discardQueue _)
  · refine .trans (t := raise .chainFault (recordFault kind entry (endWalk entry s))) (.of_eq ?_)
      (keepsCounts_discardQueue _)
    rw [raise_recordFault_eq]
    rfl

theorem keepsCounts_writeSeal (s : State) : KeepsCounts s (writeSeal s) := by
  rw [writeSeal_eq]
  exact .trans (.of_eq (by simp [sealWritten])) (keepsCounts_offerCount (by decide) _)

theorem keepsCounts_sealLeaf (s : State) : KeepsCounts s (sealLeaf s) :=
  (keepsCounts_writeSeal s).trans (keepsCounts_advance _)

theorem keepsCounts_dropRecord (s : State) : KeepsCounts s (dropRecord s) := by
  rw [dropRecord_eq]
  exact .trans (.of_eq rfl) (keepsCounts_offerCount (by decide) _)

theorem keepsCounts_placeRecord (r : Rec) (s : State) : KeepsCounts s (placeRecord r s) := by
  rw [placeRecord_eq]
  exact .trans (.of_eq rfl) (keepsCounts_offerCount (by decide) _)

theorem keepsCounts_handleRecord (r : Rec) (s : State) : KeepsCounts s (handleRecord r s) := by
  have hsealed := keepsCounts_sealLeaf s
  unfold handleRecord
  dsimp only
  split_ifs
  · exact (keepsCounts_offerCount (by decide) s).trans (keepsCounts_discardQueue _)
  · exact keepsCounts_dropRecord s
  · exact keepsCounts_placeRecord r s
  · exact hsealed.trans (keepsCounts_offerCount (by decide) _)
  · exact hsealed.trans (keepsCounts_dropRecord _)
  · exact hsealed.trans (keepsCounts_placeRecord r _)

theorem keepsCounts_drainList (l : List Rec) (s : State) : KeepsCounts s (drainList l s) := by
  induction l generalizing s with
  | nil => exact .of_eq rfl
  | cons r rest ih =>
    have hhandled : KeepsCounts s (handleRecord r { s with recorder := { s.recorder with queue := rest } }) :=
      .trans (.of_eq rfl) (keepsCounts_handleRecord r _)
    rw [drainList]
    dsimp only
    split_ifs
    · exact hhandled.trans (ih _)
    · exact hhandled

theorem keepsCounts_drain (s : State) : KeepsCounts s (drain s) := keepsCounts_drainList _ s

theorem keepsCounts_offerSnapshot (deferred : Bool) (missed : BitVec 4) (s : State) :
    KeepsCounts s (offerSnapshot deferred missed s) :=
  .trans (keepsCounts_offer (snapshotRecord deferred missed s) s) (.of_eq rfl)

theorem keepsCounts_deferSample (s : State) : KeepsCounts s (deferSample s) := by
  unfold deferSample
  split_ifs <;> exact .of_eq rfl

theorem keepsCounts_sampleStep (s : State) : KeepsCounts s (sampleStep s) := by
  unfold sampleStep
  by_cases hrecording : recording s = true
  · rw [if_pos hrecording]
    cases s.recorder.countdown with
    | none => exact .of_eq rfl
    | some n =>
      dsimp only
      split_ifs
      · exact .of_eq rfl
      · exact .trans (.of_eq rfl) (keepsCounts_deferSample _)
      · exact .trans (.of_eq rfl) (keepsCounts_offerSnapshot _ _ _)
      · exact .of_eq rfl
  · rw [if_neg hrecording]
    exact .of_eq rfl

theorem keepsCounts_endHold (s : State) : KeepsCounts s (endHold s) := by
  unfold endHold settleDeferral
  dsimp only
  split_ifs
  · refine .trans (t := offerSnapshot true s.recorder.missed
      { s with hold := { active := false, remaining := 0, ticks := 0, alertLow := false } }) ?_ (.of_eq rfl)
    exact .trans (.of_eq rfl) (keepsCounts_offerSnapshot _ _ _)
  · exact .of_eq rfl
  · exact .of_eq rfl

theorem keepsCounts_holdStep (s : State) : KeepsCounts s (holdStep s) := by
  unfold holdStep
  split_ifs
  · exact keepsCounts_endHold s
  · exact .of_eq rfl
  · exact .of_eq rfl

end Sys2Proof.Machine
end

section
/-! SUPPORT. The counts of a tick in the EDGE, DWELL and LINK banks, step by step (R77, R78, R81). -/

namespace Sys2Proof.Machine

open Sys2Proof.Safety

theorem keepsCounts_offerSupervisor (fired : Bool) (s : State) : KeepsCounts s (offerSupervisor fired s) := by
  unfold offerSupervisor
  split_ifs
  · exact keepsCounts_offer _ s
  · exact .of_eq rfl

/-- A firing counts in LINK counter 39, and nothing else at step 3 counts (R81, R160). -/
theorem supervisorStep_value {s : State} (he : 1 ≤ s.supervisor.e) (k : Fin 45) (hk : k.val < 40) :
    (supervisorStep s).counters.value[k] =
      if k = 39 ∧ fires s.supervisor = true ∧ s.units.link = .running then s.counters.value[k] + 1
      else s.counters.value[k] := by
  have hoffered (p : Prop) [Decidable p] (r : Rec) (t : State) :
      (if p then offer r t else t).counters.value[k] = t.counters.value[k] := by
    split_ifs
    · exact keepsCounts_offer r t k hk
    · rfl
  rw [supervisorStep_eq_afterSupervisor he]
  unfold afterSupervisor
  dsimp only
  by_cases hfires : fires s.supervisor = true
  · rw [if_pos hfires, hoffered]
    obtain ⟨hvalue, -⟩ := counted_counted_self 39 { s with
      supervisor := supervised s.supervisor
      outPins := { s.outPins with hrstLow := true }
      alerts := { s.alerts with raised := s.alerts.raised ||| 0x80 } }
    rw [hvalue k]
    refine if_congr ?_ rfl rfl
    rw [beq_iff_eq]
    refine and_congr_right fun hlink => ?_
    subst hlink
    exact (and_iff_right hfires).symm
  · have hnone : ¬(k = 39 ∧ fires s.supervisor = true ∧ s.units.link = .running) := fun h => hfires h.2.1
    rw [if_neg hfires, if_neg hnone]
    by_cases hwarns : warns s.supervisor = true
    · rw [if_pos hwarns, hoffered]
    · rw [if_neg hwarns]
      split_ifs <;> rfl

theorem keepsCounts_offerEvent (n : Fin 16) (rising : Bool) (s : State) : KeepsCounts s (offerEvent n rising s) := by
  unfold offerEvent
  dsimp only
  by_cases h : (s.inputs[n].trig && recording s && s.recorder.config.events) = true
  · rw [if_pos h]
    exact keepsCounts_offer _ s
  · rw [if_neg h]
    exact .of_eq rfl

/-- The input has a qualified edge at a tick with these raw levels (R52, R55). -/
def edgeQualifies (ev : Half) (n : Fin 16) (c : Conditioner) : Bool :=
  hasEdge (ev.getLsbD n) c && qualified c.mode (candidateOf (ev.getLsbD n) c)

theorem bankOf_edgeCounter (n : Fin 16) : bankOf (edgeCounter n) = .edge := if_pos n.isLt

theorem inputStep_value (ev : Half) (m : Fin 16) (s : State) (k : Fin 45) (hk : k.val < 40) :
    (inputStep ev m s).counters.value[k] =
      if k = edgeCounter m ∧ edgeQualifies ev m s.inputs[m] = true ∧ s.units.edge = .running
      then s.counters.value[k] + 1 else s.counters.value[k] := by
  unfold inputStep edgeQualifies
  dsimp only
  rw [edges_eq, qualifies_eq, candidate_eq]
  by_cases hedge : (hasEdge (ev.getLsbD m) s.inputs[m] &&
      qualified s.inputs[m].mode (candidateOf (ev.getLsbD m) s.inputs[m])) = true
  · rw [if_pos hedge]
    unfold qualifiedEdge
    rw [keepsCounts_offerEvent _ _ _ k hk, offerCount_value, bankOf_edgeCounter]
    exact if_congr (and_congr_right fun _ => (and_iff_right hedge).symm) rfl rfl
  · rw [if_neg hedge, if_neg fun h => hedge h.2.1]

/-- An EDGE counter takes the count of its own input alone, and no other counter below TALLY takes one (R77). -/
theorem value_foldl_inputStep (ev : Half) (l : List (Fin 16)) (hl : l.Nodup) (s : State) (k : Fin 45)
    (hk : k.val < 40) : (l.foldl (fun t m => inputStep ev m t) s).counters.value[k] =
      if ∃ n ∈ l, k = edgeCounter n ∧ edgeQualifies ev n s.inputs[n] = true ∧ s.units.edge = .running
      then s.counters.value[k] + 1 else s.counters.value[k] := by
  induction l generalizing s with
  | nil => simp
  | cons m l ih =>
    rw [List.nodup_cons] at hl
    have hothers (n : Fin 16) (hn : n ∈ l) : (inputStep ev m s).inputs[n] = s.inputs[n] := by
      have hne : m.val ≠ n.val := fun h => hl.1 (Fin.ext h ▸ hn)
      rw [inputStep_inputs]
      exact Vector.getElem_set_ne _ _ hne
    rw [List.foldl_cons, ih hl.2, inputStep_value ev m s k hk, show (inputStep ev m s).units = s.units by simp]
    have hrest : (∃ n ∈ l, k = edgeCounter n ∧ edgeQualifies ev n (inputStep ev m s).inputs[n] = true ∧
        s.units.edge = .running) ↔ ∃ n ∈ l, k = edgeCounter n ∧ edgeQualifies ev n s.inputs[n] = true ∧
        s.units.edge = .running :=
      exists_congr fun n => and_congr_right fun hn => by rw [hothers n hn]
    rw [if_congr hrest rfl rfl, if_congr (List.exists_mem_cons_iff _ m l) rfl rfl]
    by_cases hfirst : k = edgeCounter m ∧ edgeQualifies ev m s.inputs[m] = true ∧ s.units.edge = .running
    · have hnone : ¬∃ n ∈ l, k = edgeCounter n ∧ edgeQualifies ev n s.inputs[n] = true ∧ s.units.edge = .running := by
        rintro ⟨n, hn, heq, -⟩
        have hval : (edgeCounter n).val = (edgeCounter m).val := by rw [← heq, hfirst.1]
        have hsame : n = m := Fin.ext hval
        exact hl.1 (hsame ▸ hn)
      rw [if_neg hnone, if_pos hfirst, if_pos (Or.inl hfirst)]
    · rw [if_neg hfirst]
      exact if_congr (or_iff_right hfirst).symm rfl rfl

theorem inputsStep_value (ev : Half) (s : State) (k : Fin 45) (hk : k.val < 40) :
    (inputsStep ev s).counters.value[k] =
      if ∃ n : Fin 16, k = edgeCounter n ∧ edgeQualifies ev n s.inputs[n] = true ∧ s.units.edge = .running
      then s.counters.value[k] + 1 else s.counters.value[k] := by
  unfold inputsStep
  rw [value_foldl_inputStep ev allInputs (by decide) s k hk]
  exact if_congr (by simp [mem_allInputs]) rfl rfl

/-- The DWELL counters of the inputs at level 1 take one count each (R78). -/
theorem dwellStep_value (s : State) (k : Fin 45) : (dwellStep s).counters.value[k] =
    if (if h : 16 ≤ k.val ∧ k.val < 32 then s.inputs[k.val - 16].level else false) = true ∧ s.units.dwell = .running
    then s.counters.value[k] + 1 else s.counters.value[k] := by
  obtain ⟨⟨hvalue, -⟩, -⟩ := counted_dwell allInputs (by decide) s
  rw [dwellStep_eq_dwellCounts, hvalue, dwellOffered_all]
  refine if_congr (and_congr_right fun hdwell => ?_) rfl rfl
  have hrange : 16 ≤ k.val ∧ k.val < 32 := by
    by_contra hnot
    dsimp only at hdwell
    rw [dif_neg hnot] at hdwell
    exact absurd hdwell (by decide)
  have hbank : bankOf k = .dwell := by
    unfold bankOf
    rw [if_neg (by omega), if_pos hrange.2]
  show s.units.bank (bankOf k) = .running ↔ _
  rw [hbank]
  rfl

/-- LINK counter 32 + k as a counter number (R78). -/
def linkCounter (k : Fin 8) : Fin 45 := ⟨32 + k.val, by omega⟩

theorem word_add_zero (x : Word) : x + 0 = x := BitVec.add_zero x

theorem add_ite_one (q : Prop) [Decidable q] (x : Word) : (x + if q then 1 else 0) = if q then x + 1 else x := by
  split_ifs
  · rfl
  · exact word_add_zero x

/-- The counts of a tick below the TALLY bank: at the firing, at the edge, and at the level (R44). -/
theorem tickSteps_value (prm : Bool) (ev : Half) {s p : State} (hp : permitStep prm (tickStarted prm ev s) = p)
    (he : 1 ≤ s.supervisor.e) (k : Fin 45) (hk : k.val < 40) : (tickSteps prm ev s).counters.value[k] =
      p.counters.value[k] + (if k = 39 ∧ fires s.supervisor = true ∧ p.units.link = .running then 1 else 0) +
        (if ∃ n : Fin 16, k = edgeCounter n ∧ edgeQualifies ev n s.inputs[n] = true ∧ p.units.edge = .running
          then 1 else 0) +
        (if (∃ n : Fin 16, k = dwellCounter n ∧
            (conditioned (candidateOf (ev.getLsbD n) s.inputs[n]) s.inputs[n]).level = true) ∧ p.units.dwell = .running
          then 1 else 0) := by
  have hinputs : p.inputs = s.inputs := by simp [← hp, tickStarted]
  have hsupervisor : p.supervisor = s.supervisor := by simp [← hp, tickStarted]
  have hsteps : tickSteps prm ev s =
      evalAlert (drain (holdStep (sampleStep (dwellStep (inputsStep ev (supervisorStep p)))))) := by rw [← hp]; rfl
  have hlater (t : State) : (evalAlert (drain (holdStep (sampleStep t)))).counters.value[k] = t.counters.value[k] :=
    ((keepsCounts_sampleStep t).trans ((keepsCounts_holdStep _).trans (keepsCounts_drain _))) k hk
  have hsup : (supervisorStep p).inputs = s.inputs ∧ (supervisorStep p).units = p.units := by simp [hinputs]
  obtain ⟨hsupInputs, hsupUnits⟩ := hsup
  have hlevels : (if h : 16 ≤ k.val ∧ k.val < 32 then (inputsStep ev (supervisorStep p)).inputs[k.val - 16].level
      else false) = true ↔ ∃ n : Fin 16, k = dwellCounter n ∧
        (conditioned (candidateOf (ev.getLsbD n) s.inputs[n]) s.inputs[n]).level = true := by
    have hevents (n : Fin 16) := inputsStep_inputs ev (supervisorStep p) n
    rw [hsupInputs] at hevents
    constructor
    · intro hlevel
      split_ifs at hlevel with hrange
      refine ⟨⟨k.val - 16, by omega⟩, Fin.ext ?_, ?_⟩
      · simp only [dwellCounter]
        omega
      · rw [← hevents]
        exact hlevel
    · rintro ⟨n, rfl, hlevel⟩
      have hn : (dwellCounter n).val = 16 + n.val := rfl
      rw [dif_pos (by omega)]
      rw [← hevents] at hlevel
      simpa [hn] using hlevel
  have hinUnits : (inputsStep ev (supervisorStep p)).units = p.units := by simp
  rw [hsteps, hlater, dwellStep_value, inputsStep_value ev _ k hk,
    supervisorStep_value (by rw [hsupervisor]; exact he) k hk, hsupInputs, hsupUnits, hsupervisor, hinUnits]
  simp only [← add_ite_one, hlevels]

end Sys2Proof.Machine

open Sys2Proof Sys2Proof.Machine Sys2Proof.Safety

/-- Settles O45: below the TALLY bank each counter has one source, and the writer counts in none of them. -/
theorem tickCounts : Obligations.TickCounts := by
  unfold Obligations.TickCounts
  intro prm ev s htick he hqueue p
  have hunits : (permitStep prm (tickStarted prm ev s)).units = p.units ∧
      (permitStep prm (tickStarted prm ev s)).counters = p.counters := by
    rw [permitStep_tickStarted hqueue]
    show (afterPermit prm ev s).units = (if permitFlips prm s then afterEvaluation { s with permit := prm } else s).units ∧
      (afterPermit prm ev s).counters =
        (if permitFlips prm s then afterEvaluation { s with permit := prm } else s).counters
    unfold afterPermit
    dsimp only
    by_cases hflips : permitFlips prm s = true
    · rw [if_pos hflips, if_pos hflips]
      unfold afterEvaluation
      exact ⟨rfl, rfl⟩
    · rw [if_neg hflips, if_neg hflips]
      exact ⟨rfl, rfl⟩
  clear_value p
  obtain ⟨hunits, hcounters⟩ := hunits
  have hvalue (k : Fin 45) (hk : k.val < 40) := tickSteps_value prm ev rfl he k hk
  rw [hunits, hcounters] at hvalue
  refine ⟨_, execTick_of_ticking htick prm ev, fun n => ⟨?_, ?_⟩, fun k => ?_⟩
  · have hedge : (∃ m : Fin 16, edgeCounter n = edgeCounter m ∧ edgeQualifies ev m s.inputs[m] = true ∧
        p.units.edge = .running) ↔ edgeQualifies ev n s.inputs[n] = true ∧ p.units.edge = .running := by
      constructor
      · rintro ⟨m, heq, h⟩
        have hval : (edgeCounter n).val = (edgeCounter m).val := congrArg Fin.val heq
        have hsame : n = m := Fin.ext hval
        subst hsame
        exact h
      · exact fun h => ⟨n, rfl, h⟩
    have hfire : ¬(edgeCounter n = 39 ∧ fires s.supervisor = true ∧ p.units.link = .running) := by
      rintro ⟨heq, -⟩
      have hval : n.val = 39 := congrArg Fin.val heq
      omega
    have hdwell : ¬((∃ m : Fin 16, edgeCounter n = dwellCounter m ∧
        (conditioned (candidateOf (ev.getLsbD m) s.inputs[m]) s.inputs[m]).level = true) ∧
          p.units.dwell = .running) := by
      rintro ⟨⟨m, heq, -⟩, -⟩
      have hval : n.val = 16 + m.val := congrArg Fin.val heq
      omega
    have h := hvalue (edgeCounter n) (by show n.val < 40; omega)
    rw [if_neg hfire, if_neg hdwell, if_congr hedge rfl rfl, word_add_zero, word_add_zero, add_ite_one] at h
    exact h
  · have hdwell : (∃ m : Fin 16, dwellCounter n = dwellCounter m ∧
        (conditioned (candidateOf (ev.getLsbD m) s.inputs[m]) s.inputs[m]).level = true) ↔
          (conditioned (candidateOf (ev.getLsbD n) s.inputs[n]) s.inputs[n]).level = true := by
      constructor
      · rintro ⟨m, heq, h⟩
        have hval : 16 + n.val = 16 + m.val := congrArg Fin.val heq
        have hsame : n = m := Fin.ext (by omega)
        subst hsame
        exact h
      · exact fun h => ⟨n, rfl, h⟩
    have hfire : ¬(dwellCounter n = 39 ∧ fires s.supervisor = true ∧ p.units.link = .running) := by
      rintro ⟨heq, -⟩
      have hval : 16 + n.val = 39 := congrArg Fin.val heq
      omega
    have hedge : ¬∃ m : Fin 16, dwellCounter n = edgeCounter m ∧ edgeQualifies ev m s.inputs[m] = true ∧
        p.units.edge = .running := by
      rintro ⟨m, heq, -⟩
      have hval : 16 + n.val = m.val := congrArg Fin.val heq
      omega
    have h := hvalue (dwellCounter n) (by show 16 + n.val < 40; omega)
    rw [if_neg hfire, if_neg hedge, if_congr (and_congr_left' hdwell) rfl rfl, word_add_zero, word_add_zero,
      add_ite_one] at h
    exact h
  · have hfire : (linkCounter k = 39 ∧ fires s.supervisor = true ∧ p.units.link = .running) ↔
        k.val = 7 ∧ fires s.supervisor = true ∧ p.units.link = .running := by
      refine and_congr_left' ⟨fun heq => ?_, fun hk => Fin.ext ?_⟩
      · have hval : 32 + k.val = 39 := congrArg Fin.val heq
        omega
      · show 32 + k.val = 39
        omega
    have hedge : ¬∃ m : Fin 16, linkCounter k = edgeCounter m ∧ edgeQualifies ev m s.inputs[m] = true ∧
        p.units.edge = .running := by
      rintro ⟨m, heq, -⟩
      have hval : 32 + k.val = m.val := congrArg Fin.val heq
      omega
    have hdwell : ¬((∃ m : Fin 16, linkCounter k = dwellCounter m ∧
        (conditioned (candidateOf (ev.getLsbD m) s.inputs[m]) s.inputs[m]).level = true) ∧
          p.units.dwell = .running) := by
      rintro ⟨⟨m, heq, -⟩, -⟩
      have hval : 32 + k.val = 16 + m.val := congrArg Fin.val heq
      omega
    have h := hvalue (linkCounter k) (by show 32 + k.val < 40; omega)
    rw [if_neg hedge, if_neg hdwell, if_congr hfire rfl rfl, word_add_zero, word_add_zero, add_ite_one] at h
    exact h

end

section
-- One declaration at a time: in parallel the threads of the whole text take more memory than the check allows.
set_option Elab.async false

/-! SUPPORT. A rule for what every step keeps: each row of the table is made of a few operations on the parts of the state
that the invariants of Safety speak of, so a predicate that each operation keeps is kept by every step. -/

namespace Sys2Proof.Machine

open Sys2Proof.Safety

/-- `t` agrees with `s` in every part that an invariant speaks of: the input pins, the link, the last result, the
timebase with its divider, the inputs, the lock, the permit and the flags of an open segment are no such parts. -/
structure SameParts (s t : State) : Prop where
  outPins : t.outPins = s.outPins := by rfl
  life : t.life = s.life := by rfl
  power : t.power = s.power := by rfl
  hold : t.hold = s.hold := by rfl
  units : t.units = s.units := by rfl
  counters : t.counters = s.counters := by rfl
  freeze : t.freeze = s.freeze := by rfl
  recorder : t.recorder = s.recorder := by rfl
  capture : t.capture = s.capture := by rfl
  directory : t.directory = s.directory := by rfl
  alerts : t.alerts = s.alerts := by rfl
  supervisor : t.supervisor = s.supervisor := by rfl
  space : t.window.space = s.window.space := by rfl
  walk : t.window.walk = s.window.walk := by rfl
  start : t.window.start = s.window.start := by rfl
  stop : t.window.stop = s.window.stop := by rfl
  ptr : t.window.ptr = s.window.ptr := by rfl
  exhausted : t.window.exhausted = s.window.exhausted := by rfl

/-- The operations that the rows are made of, between three predicates: `P` holds between two events, `Q` inside an
event whose records the writer has drained, and `R` inside an event while records wait. -/
structure EventRules (P Q R : State → Prop) : Prop where
  inside {s : State} : P s → Q s
  waits {s : State} : Q s → R s
  same {s t : State} : P s → SameParts s t → P t
  sameInside {s t : State} : Q s → SameParts s t → Q t
  sameWaiting {s t : State} : R s → SameParts s t → R t
  count {s : State} (k : Fin 45) : Q s → Q (offerCount k s)
  countWaiting {s : State} (k : Fin 45) : R s → R (offerCount k s)
  frameError {s : State} : Q s → Q (raise .frameError s)
  alert {s : State} : linkUp s = true → Q s → P (evalAlert s)
  moved {s : State} : Q s → Q { s with window := s.window.moved }
  stored {s : State} (b : Byte) : writeRefused s = false → s.window.inSpace = true → Q s →
    Q (storeByte s.window.space s.window.ptr.toNat b s)
  effect {s : State} {c : Instr} : (commandBytes c).isSome = true → linkUp s = true → answerTo c s = .done → P s →
    Q (effectOf c s)
  held {s : State} : s.hold.active = true → 2 ≤ s.hold.remaining → Q s →
    Q { s with hold := { s.hold with remaining := s.hold.remaining - 1 } }
  heldTick {s : State} : s.hold.active = true → R s → R { s with hold := { s.hold with ticks := s.hold.ticks + 1 } }
  ends {s : State} : R s → R (endHold s)
  drained {s : State} : R s → Q (drain s)
  offered {s : State} (r : Rec) : s.units.recorder = .running → R s → R (offer r s)
  granted {s : State} : linkUp s = true → R s → R (evaluateGrants s)
  supervised {s : State} : linkUp s = true → R s → R (supervisorStep s)
  sampled {s : State} : R s → R (sampleStep s)
  woken {s : State} : P s → R { s with power := .run, divider := 0 }
  reset {s : State} (prm : Bool) : P s → P (commandReset prm s)
  pinReset {s : State} : linkUp s = true → P s → P (pinAssert s)
  released {s : State} (p : PinLevels) : P s → P (pinRelease p s)
  opened {s : State} (straps : Straps) (p : PinLevels) : P s → P (openAfterInit straps p s)
  powered {s : State} {t : State} (p : PinLevels) (ev : Half) : P s → exec (.powerOnReset p ev) s = .next t → P t
  lost {s : State} {t : State} : P s → exec .lossOfSupply s = .next t → P t
  swept {s : State} : s.life = .init → s.sweep + 1 < Config.sweepPeriods → P s → P (sweepByte s)
  sweptAll {s : State} : s.life = .init → P s →
    P { s with capture := [], directory := [], sweep := Config.sweepPeriods }

namespace EventRules

variable {P Q R : State → Prop} (h : EventRules P Q R)
include h

/-! ## Completion events -/

theorem finishCommand {held : Bool} (r : Result) {s : State} (hup : linkUp s = true)
    (hheld : held = true → s.hold.active = true) (hs : Q s) : P (finishCommand held r s) := by
  have hcounted : Q (offerCount (if r = .done then 33 else 34) { s with lastResult := r }) :=
    h.count _ (h.sameInside hs {})
  have hcountedHold : (offerCount (if r = .done then 33 else 34) { s with lastResult := r }).hold = s.hold := by simp
  have hcountedUp : linkUp (offerCount (if r = .done then 33 else 34) { s with lastResult := r }) = true := by
    simpa [linkUp] using hup
  unfold Machine.finishCommand
  dsimp only
  generalize offerCount (if r = .done then 33 else 34) { s with lastResult := r } = t at hcounted hcountedHold hcountedUp
  split_ifs with hin
  · unfold holdAccounting
    split_ifs with hlast
    · exact h.alert (by simpa [linkUp] using hcountedUp) (h.drained (h.ends (h.waits hcounted)))
    · exact h.alert hcountedUp (h.held (by rw [hcountedHold]; exact hheld hin) (by omega) hcounted)
  · exact h.alert hcountedUp hcounted

theorem moveOn {s : State} (hs : P s) : P (moveOn s) :=
  h.same hs {}

theorem refused (r : Result) {s : State} (hs : P s) : P (complete r id s) := by
  unfold complete
  split_ifs with hup
  · exact h.moveOn (h.finishCommand r hup id (h.inside hs))
  · exact h.moveOn (h.finishCommand r hup id (h.inside hs))
  · exact hs

theorem command {c : Instr} (hc : (commandBytes c).isSome = true) {s t : State} (ht : exec c s = .next t) (hs : P s) :
    P t := by
  cases hreset : isReset c with
  | false =>
    rw [exec_command hc hreset] at ht
    obtain rfl := Host.Outcome.next.inj ht
    unfold complete
    split_ifs with hup hdone
    · have hheld (hactive : s.hold.active = true) : (effectOf c s).hold.active = true := by
        rw [effectOf_hold_of_done hc hdone hactive]
        exact hactive
      exact h.moveOn (h.finishCommand _ (linkUp_effectOf hc hup) hheld (h.effect hc hup hdone hs))
    · exact h.moveOn (h.finishCommand _ hup id (h.inside hs))
    · exact hs
  | true =>
    obtain ⟨guard, prm, rfl⟩ := eq_sysreset_of_isReset hc hreset
    rw [exec_sysreset] at ht
    obtain rfl := Host.Outcome.next.inj ht
    split_ifs
    · exact h.reset prm hs
    · exact h.refused _ hs

/-! ## The link -/

omit h in
theorem isSome_commandBytes_of_commandOf {prm : Bool} {bytes : List Byte} {c : Instr}
    (hc : commandOf prm bytes = some c) : (commandBytes c).isSome = true := by
  cases bytes with
  | nil => exact absurd hc.symm (Option.some_ne_none _)
  | cons code rest => rw [commandBytes_of_commandOf hc]; rfl

theorem unknownCommand {s t : State} (ht : execUnknownCommand s = .next t) (hs : P s) : P t := by
  obtain rfl := Host.Outcome.next.inj ht
  exact h.refused .unknown hs

theorem runBytes {bytes : List Byte} {s t : State} (ht : runBytes bytes s = .next t) (hs : P s) : P t := by
  unfold Machine.runBytes at ht
  split at ht
  · next c hc =>
    have hknown := isSome_commandBytes_of_commandOf hc
    rw [runCommand_eq_exec hknown] at ht
    exact h.command hknown ht hs
  · exact h.unknownCommand ht hs

theorem framing {s : State} (hup : linkUp s = true) (hs : P s) : P (framingError s) := by
  have hraised : Q (raise .frameError { s with lastResult := .framing, link := { s.link with parser := .ignore } }) :=
    h.frameError (h.sameInside (h.inside hs) {})
  exact h.alert (by simpa [linkUp] using hup) (h.count 35 hraised)

theorem takeHeader {b : Byte} {s : State} (hup : linkUp s = true) (hs : P s) : P (takeHeader b s) := by
  have hframed := h.framing hup hs
  unfold Machine.takeHeader
  dsimp only
  split <;> split_ifs
  all_goals first | exact hframed | exact h.same hs {}

theorem takeCode {len : BitVec 5} {more : Bool} {b : Byte} {s t : State} (hup : linkUp s = true)
    (ht : takeCode len more b s = .next t) (hs : P s) : P t := by
  unfold Machine.takeCode at ht
  split at ht <;> split_ifs at ht
  · exact h.unknownCommand ht hs
  · obtain rfl := Host.Outcome.next.inj ht
    exact h.same hs {}
  · obtain rfl := Host.Outcome.next.inj ht
    exact h.framing hup hs
  · exact h.runBytes ht hs
  · obtain rfl := Host.Outcome.next.inj ht
    exact h.same hs {}

theorem windowWrite {b : Byte} {s t : State} (hup : linkUp s = true) (ht : windowWrite b s = .next t) (hs : P s) :
    P t := by
  unfold Machine.windowWrite at ht
  split_ifs at ht with hclosed hlocked hrefused hspace
  · obtain rfl := Host.Outcome.next.inj ht
    exact hs
  · obtain rfl := Host.Outcome.next.inj ht
    exact h.same hs {}
  · obtain rfl := Host.Outcome.next.inj ht
    exact h.same hs {}
  · obtain rfl := Host.Outcome.next.inj ht
    have hstored := h.stored b (eq_false_of_ne_true hrefused) (by simpa using hspace) (h.inside hs)
    have hlife : (storeByte s.window.space s.window.ptr.toNat b s).life = s.life := by
      unfold storeByte
      split <;> rfl
    exact h.alert (by simpa [linkUp, hlife] using hup) (h.count 37 (h.moved hstored))

theorem incomingByte {b : Byte} {s t : State} (ht : incomingByte b s = .next t) (hs : P s) : P t := by
  unfold Machine.incomingByte at ht
  by_cases hdown : (!linkUp s || !takesBytes s) = true
  · rw [if_pos hdown] at ht
    obtain rfl := Host.Outcome.next.inj ht
    exact hs
  rw [if_neg hdown] at ht
  have hopen : linkUp s = true ∧ takesBytes s = true := by simpa using hdown
  have hup : linkUp (lineAtByte s) = true := by simpa [linkUp] using hopen.1
  have hline : P (lineAtByte s) := h.same hs (by constructor <;> simp)
  dsimp only at ht
  generalize lineAtByte s = u at ht hup hline
  split at ht
  · obtain rfl := Host.Outcome.next.inj ht
    exact hs
  · obtain rfl := Host.Outcome.next.inj ht
    exact h.takeHeader hup hline
  · split at ht
    · exact h.takeCode hup ht hline
    · unfold takeOperand at ht
      split_ifs at ht
      · exact h.runBytes ht hline
      · obtain rfl := Host.Outcome.next.inj ht
        exact h.same hline {}
  · unfold takeSkip at ht
    split_ifs at ht
    · exact h.unknownCommand ht hline
    · obtain rfl := Host.Outcome.next.inj ht
      exact h.same hline {}
  · exact h.windowWrite hup ht hline
  · obtain rfl := Host.Outcome.next.inj ht
    split_ifs
    · exact h.framing hup hline
    · exact hline
  · obtain rfl := Host.Outcome.next.inj ht
    exact hline

/-- A payload byte's delivery (R136, R139). -/
theorem delivers {s : State} (hup : linkUp s = true) (hs : P s) : P (windowDelivers s) := by
  unfold windowDelivers
  split_ifs
  · exact hs
  · exact h.same hs {}
  · exact hs
  · exact h.alert (by simpa [linkUp] using hup) (h.count 36 (h.moved (h.inside hs)))

theorem sendByte {s t : State} (hup : linkUp s = true) (ht : sendByte s = .next t) (hs : P s) : P t := by
  unfold Machine.sendByte at ht
  split at ht
  · obtain rfl := Host.Outcome.next.inj ht
    unfold sendEcho
    split <;> exact h.same hs {}
  · obtain rfl := Host.Outcome.next.inj ht
    unfold sendStatus
    split_ifs <;> exact h.same hs {}
  · unfold fixPayload at ht
    split_ifs at ht
    · obtain rfl := Host.Outcome.next.inj ht
      exact h.delivers hup (h.same hs {})
    · obtain rfl := Host.Outcome.next.inj ht
      exact h.same hs {}
  · obtain rfl := Host.Outcome.next.inj ht
    exact hs
  · obtain rfl := Host.Outcome.next.inj ht
    exact h.same hs {}
  · obtain rfl := Host.Outcome.next.inj ht
    split_ifs
    · exact h.framing hup (h.same hs {})
    · exact h.same hs {}

theorem clockByte {s t : State} (hup : linkUp s = true) (ht : clockByte s = .next t) (hs : P s) : P t := by
  unfold Machine.clockByte at ht
  split at ht
  · unfold clockPayload at ht
    split_ifs at ht
    · obtain rfl := Host.Outcome.next.inj ht
      exact hs
    · obtain rfl := Host.Outcome.next.inj ht
      exact h.delivers hup (h.same hs {})
  · obtain rfl := Host.Outcome.next.inj ht
    exact hs

theorem outgoingByte {m : ReadMoment} {s t : State} (ht : outgoingByte m s = .next t) (hs : P s) : P t := by
  unfold Machine.outgoingByte at ht
  split_ifs at ht with hdown
  · obtain rfl := Host.Outcome.next.inj ht
    exact hs
  have hup : linkUp s = true := by simp_all
  cases m with
  | value => exact h.sendByte hup ht hs
  | clock => exact h.clockByte hup ht hs
  | nack =>
    obtain rfl := Host.Outcome.next.inj ht
    unfold notAcknowledged
    split_ifs
    · exact h.same hs {}
    · exact hs

/-- A wake (R167). -/
theorem wakes {host : Bool} {input : BitVec 4} {s : State} (hup : linkUp s = true) (hs : P s) :
    P (wakeUp host input s) := by
  have hrun := h.woken hs
  unfold wakeUp
  dsimp only
  split_ifs with hrecording
  · exact h.alert (by simpa [linkUp] using hup) (h.drained (h.offered _ ((recording_iff _).1 hrecording) hrun))
  · exact h.alert (by simpa [linkUp] using hup) (h.drained hrun)

theorem transactionEnds {s : State} (hs : P s) : P (transactionEnds s) := by
  have hended : P (if linkUp s then endTransaction s else s) := by
    split_ifs with hup
    · have htruncated : Q (truncate s) := h.count 35 (h.frameError (h.sameInside (h.inside hs) {}))
      have htruncatedUp : linkUp (truncate s) = true := by simpa [linkUp, truncate] using hup
      unfold endTransaction
      split
      · exact hs
      · exact h.alert (by simpa [linkUp] using htruncatedUp) (h.count 32 (h.sameInside htruncated {}))
      · exact h.alert (by simpa [linkUp] using htruncatedUp) (h.count 32 (h.sameInside htruncated {}))
      · exact h.alert (by simpa [linkUp] using hup) (h.count 32 (h.sameInside (h.inside hs) {}))
    · exact hs
  unfold Machine.transactionEnds
  generalize (if linkUp s then endTransaction s else s) = u at hended
  exact h.same hended (by simp only [leaveBus, setCs_eq]; constructor <;> rfl)

theorem transactionStarts {read : Bool} {s : State} (hs : P s) : P (transactionStarts read s) := by
  unfold Machine.transactionStarts
  by_cases hup : linkUp s = true
  · rw [if_pos hup]
    have hwoken : P (if s.link.parser == .idle && s.power == .standby then wakeUp true 0 s else s) := by
      split_ifs
      · exact h.wakes hup hs
      · exact hs
    dsimp only
    generalize (if s.link.parser == .idle && s.power == .standby then wakeUp true 0 s else s) = u at hwoken
    split_ifs <;> exact h.same hwoken (by simp only [lineAtStart, setCs_eq, setParser]; constructor <;> rfl)
  · rw [if_neg hup]
    split_ifs
    · exact hs
    · exact h.same hs (by simp only [setCs_eq]; constructor <;> rfl)

/-! ## Ticks, wakes and resets -/

theorem permitStep (prm : Bool) {s : State} (hup : linkUp s = true) (hs : R s) : R (permitStep prm s) := by
  unfold Machine.permitStep
  split_ifs
  · exact h.sameWaiting hs {}
  · exact h.granted hup (h.sameWaiting hs {})
  · exact h.sameWaiting hs {}

theorem offerEvent (n : Fin 16) (rising : Bool) {s : State} (hs : R s) : R (offerEvent n rising s) := by
  unfold Machine.offerEvent
  by_cases hoffers : (s.inputs[n].trig && recording s && s.recorder.config.events) = true
  · rw [if_pos hoffers]
    simp only [Bool.and_eq_true] at hoffers
    obtain ⟨⟨-, hrecording⟩, -⟩ := hoffers
    exact h.offered _ ((recording_iff s).1 hrecording) hs
  · rw [if_neg hoffers]
    exact hs

theorem inputStep (ev : Half) (n : Fin 16) {s : State} (hs : R s) : R (inputStep ev n s) := by
  unfold Machine.inputStep
  dsimp only
  split_ifs
  · exact h.offerEvent n _ (h.countWaiting (edgeCounter n) (h.sameWaiting hs {}))
  · exact h.sameWaiting hs {}

theorem inputsStep (ev : Half) {s : State} (hs : R s) : R (inputsStep ev s) := by
  unfold Machine.inputsStep
  exact List.foldlRecOn allInputs _ hs fun _ hb n _ => h.inputStep ev n hb

theorem dwellStep {s : State} (hs : R s) : R (dwellStep s) := by
  unfold Machine.dwellStep
  refine List.foldlRecOn allInputs _ hs fun _ hb n _ => ?_
  split_ifs
  · exact h.countWaiting _ hb
  · exact hb

theorem holdStep {s : State} (hs : R s) : R (holdStep s) := by
  unfold Machine.holdStep
  split_ifs with hactive
  · exact h.ends hs
  · exact h.heldTick hactive hs
  · exact hs

theorem tickSteps (prm : Bool) (ev : Half) {s : State} (hup : linkUp s = true) (hs : P s) : P (tickSteps prm ev s) := by
  have hstarted : R (tickStarted prm ev s) := h.waits (h.inside (h.same hs {}))
  have hstartedUp : linkUp (tickStarted prm ev s) = true := by simpa [linkUp, tickStarted] using hup
  have hpermit := h.permitStep prm hstartedUp hstarted
  have hsupervised := h.supervised (by simpa [linkUp, tickStarted] using hup) hpermit
  have hsteps := h.drained (h.holdStep (h.sampled (h.dwellStep (h.inputsStep ev hsupervised))))
  exact h.alert (by simpa [linkUp, tickStarted] using hup) hsteps

omit h in
theorem linkUp_of_ticking {s : State} (h : ticking s = true) : linkUp s = true :=
  (Bool.and_eq_true _ _ ▸ h : _ ∧ _).1

theorem sweepEnds (p : PinLevels) {s : State} (hlife : s.life = .init) (hs : P s) : P (sweepEnds p s) := by
  unfold Machine.sweepEnds
  split_ifs
  · exact h.same (h.sweptAll hlife hs) {}
  · exact h.opened _ p hs

theorem rstRises (p : PinLevels) {s : State} (hs : P s) : P (rstRises p s) := by
  unfold Machine.rstRises
  split
  · exact h.released p hs
  · split_ifs
    · exact h.opened _ p hs
    · exact h.same hs {}
  · exact hs

theorem wake {host : Bool} {changed : Half} {s t : State} (ht : execWake host changed s = .next t) (hs : P s) :
    P t := by
  obtain rfl := Host.Outcome.next.inj ht
  have hpins : P { s with inPins := { s.inPins with ev := s.inPins.ev ^^^ changed } } := h.same hs {}
  dsimp only
  split_ifs with hwatched
  · have hup : linkUp s = true := by simp_all
    exact h.wakes hup hpins
  · have hup : linkUp s = true := by simp_all
    split
    · exact h.wakes hup hpins
    · exact hpins
  · exact hpins

theorem refclkPeriod {s : State} (hs : P s) : P (refclkPeriod s) := by
  unfold Machine.refclkPeriod
  split
  · next hlife =>
    split_ifs with hsweep
    · exact h.swept hlife hsweep hs
    · exact h.sweepEnds _ hlife hs
    · exact hs
  · split_ifs with hstill
    · exact hs
    · exact h.same hs {}
    · exact h.tickSteps _ _ (linkUp_of_ticking (by simpa using hstill)) hs

/-- The rows that name a part of an event. -/
theorem part {c : Instr} {s t : State} (hc : isEvent c = false) (ht : exec c s = .next t) (hs : P s) : R t := by
  have hinside := h.inside hs
  have hwaits := h.waits hinside
  cases c
  case permitChange prm =>
    obtain rfl := Host.Outcome.next.inj ht
    split_ifs with hdue
    · exact h.permitStep prm (linkUp_of_ticking (by simp_all)) hwaits
    · exact hwaits
  case wdWarn | wdFired | pulseEnd =>
    obtain rfl := Host.Outcome.next.inj ht
    split_ifs with hdue
    · exact h.supervised (linkUp_of_ticking (by simp_all)) hwaits
    · exact hwaits
  case inputEdge n raw =>
    obtain rfl := Host.Outcome.next.inj ht
    split_ifs
    · exact h.inputStep _ n hwaits
    · exact h.inputStep _ n hwaits
    · exact hwaits
  case samplingPoint =>
    obtain rfl := Host.Outcome.next.inj ht
    split_ifs
    · exact h.sampled hwaits
    · exact hwaits
  case holdTickLimit =>
    obtain rfl := Host.Outcome.next.inj ht
    split_ifs with hdue
    · have hup : linkUp s = true := linkUp_of_ticking (by simp_all)
      exact h.waits (h.inside (h.alert (by simpa [linkUp] using hup) (h.drained (h.holdStep hwaits))))
    · exact hwaits
  case holdCommandsDone =>
    obtain rfl := Host.Outcome.next.inj ht
    split_ifs with hdue
    · simp only [Bool.and_eq_true, beq_iff_eq] at hdue
      obtain ⟨⟨hup, -⟩, hlast⟩ := hdue
      unfold holdAccounting
      rw [if_pos (by omega)]
      exact h.waits (h.inside (h.alert (by simpa [linkUp] using hup) (h.drained (h.ends hwaits))))
    · exact hwaits
  all_goals exact absurd hc (by simp [isEvent])

/-- The rows that are events. -/
theorem event {c : Instr} {s t : State} (hc : isEvent c = true) (ht : exec c s = .next t) (hs : P s) : P t := by
  cases c
  case headerByte | codeByte | skipByte | ignoredByte | strayWrite | windowWriteByte => exact h.incomingByte ht hs
  case operandByte b prm =>
    exact h.incomingByte (s := { s with inPins := { s.inPins with prm := prm } }) ht (h.same hs {})
  case strayRead | echoByte | statusByte | windowReadByte => exact h.outgoingByte ht hs
  case transactionStart a =>
    obtain rfl := Host.Outcome.next.inj ht
    split_ifs
    · exact h.transactionEnds hs
    · exact h.transactionStarts hs
  case transactionEnd =>
    obtain rfl := Host.Outcome.next.inj ht
    exact h.transactionEnds hs
  case unknownCommand => exact h.unknownCommand ht hs
  case wake => exact h.wake ht hs
  case tick prm ev =>
    obtain rfl := Host.Outcome.next.inj ht
    split_ifs with hticking
    · exact h.tickSteps prm ev (linkUp_of_ticking hticking) hs
    · exact hs
  case powerOnReset p ev => exact h.powered p ev hs ht
  case lossOfSupply => exact h.lost hs ht
  case sweepComplete p =>
    obtain rfl := Host.Outcome.next.inj ht
    split_ifs with hsweeping
    · exact h.sweepEnds p (by simp_all) hs
    · exact hs
  case pinResetAssert =>
    obtain rfl := Host.Outcome.next.inj ht
    split_ifs with hup
    · exact h.pinReset hup hs
    · exact h.same hs {}
  case pinResetRelease p | releaseOfRstInInit p =>
    obtain rfl := Host.Outcome.next.inj ht
    exact h.rstRises p hs
  case permitChange | wdWarn | wdFired | pulseEnd | inputEdge | samplingPoint | holdTickLimit | holdCommandsDone =>
    exact absurd hc Bool.false_ne_true
  all_goals exact h.command rfl ht hs

/-- A step of an event, or of a period. -/
theorem step {s t : State} (hevent : ∀ c rest, s.pending = c :: rest → isEvent c = true) (ht : step s = .next t)
    (hs : P s) : P t := by
  unfold Machine.step at ht
  split at ht
  · obtain rfl := Host.Outcome.next.inj ht
    exact h.refclkPeriod hs
  · next c rest hpending => exact h.event (hevent c rest hpending) ht (h.same hs {})

end EventRules

/-- The operations that the rows are made of keep `P`. -/
structure StepRules (P : State → Prop) : Prop where
  same {s t : State} : P s → SameParts s t → P t
  count {s : State} (k : Fin 45) : P s → P (offerCount k s)
  frameError {s : State} : P s → P (raise .frameError s)
  alert {s : State} : linkUp s = true → P s → P (evalAlert s)
  moved {s : State} : P s → P { s with window := s.window.moved }
  stored {s : State} (b : Byte) : writeRefused s = false → s.window.inSpace = true → P s →
    P (storeByte s.window.space s.window.ptr.toNat b s)
  effect {s : State} {c : Instr} : (commandBytes c).isSome = true → linkUp s = true → answerTo c s = .done → P s →
    P (effectOf c s)
  held {s : State} : s.hold.active = true → 2 ≤ s.hold.remaining → P s →
    P { s with hold := { s.hold with remaining := s.hold.remaining - 1 } }
  heldTick {s : State} : s.hold.active = true → P s → P { s with hold := { s.hold with ticks := s.hold.ticks + 1 } }
  ends {s : State} : P s → P (endHold s)
  drained {s : State} : P s → P (drain s)
  offered {s : State} (r : Rec) : s.units.recorder = .running → P s → P (offer r s)
  granted {s : State} : linkUp s = true → P s → P (evaluateGrants s)
  supervised {s : State} : linkUp s = true → P s → P (supervisorStep s)
  sampled {s : State} : P s → P (sampleStep s)
  woken {s : State} : P s → P { s with power := .run, divider := 0 }
  reset {s : State} (prm : Bool) : P s → P (commandReset prm s)
  pinReset {s : State} : linkUp s = true → P s → P (pinAssert s)
  released {s : State} (p : PinLevels) : P s → P (pinRelease p s)
  opened {s : State} (straps : Straps) (p : PinLevels) : P s → P (openAfterInit straps p s)
  powered {s : State} {t : State} (p : PinLevels) (ev : Half) : P s → exec (.powerOnReset p ev) s = .next t → P t
  lost {s : State} {t : State} : P s → exec .lossOfSupply s = .next t → P t
  swept {s : State} : s.life = .init → s.sweep + 1 < Config.sweepPeriods → P s → P (sweepByte s)
  sweptAll {s : State} : s.life = .init → P s →
    P { s with capture := [], directory := [], sweep := Config.sweepPeriods }

theorem StepRules.eventRules {P : State → Prop} (h : StepRules P) : EventRules P P P where
  inside := id
  waits := id
  same := h.same
  sameInside := h.same
  sameWaiting := h.same
  count := h.count
  countWaiting := h.count
  frameError := h.frameError
  alert := h.alert
  moved := h.moved
  stored := h.stored
  effect := h.effect
  held := h.held
  heldTick := h.heldTick
  ends := h.ends
  drained := h.drained
  offered := h.offered
  granted := h.granted
  supervised := h.supervised
  sampled := h.sampled
  woken := h.woken
  reset := h.reset
  pinReset := h.pinReset
  released := h.released
  opened := h.opened
  powered := h.powered
  lost := h.lost
  swept := h.swept
  sweptAll := h.sweptAll

/-- Every step keeps what the operations keep. -/
theorem StepRules.step {P : State → Prop} (h : StepRules P) {s t : State} (ht : step s = .next t) (hs : P s) : P t := by
  unfold Machine.step at ht
  split at ht
  · obtain rfl := Host.Outcome.next.inj ht
    exact h.eventRules.refclkPeriod hs
  · next c rest _ =>
    have hpending : P (s.withPending rest) := h.same hs {}
    cases hc : isEvent c with
    | true => exact h.eventRules.event hc ht hpending
    | false => exact h.eventRules.part hc ht hpending

end Sys2Proof.Machine
end

section
-- One declaration at a time: in parallel the threads of the whole text take more memory than the check allows.
set_option Elab.async false

/-! SUPPORT. The three stores stay in canonical form and the window in its range (O55). -/

namespace Sys2Proof.Machine

open Sys2Proof.Safety

/-! ## What an accepted command's checks say -/

theorem operandsInRange_of_done {c : Instr} {s : State} (h : answerTo c s = .done) : operandsInRange c s = true := by
  rw [answerTo_eq] at h
  by_contra hrange
  rw [if_pos (eq_false_of_ne_true hrange)] at h
  split_ifs at h

theorem stateRefusal_of_done {c : Instr} {s : State} (h : answerTo c s = .done) :
    (stateRefusal c s).getD .done = .done := by
  rw [answerTo_eq] at h
  split_ifs at h
  exact h

/-! ## The window's moves -/

/-- A window stays in its range with another pointer in it. -/
theorem windowOk_ptr {s : State} (h : WindowOk s) {p : Half}
    (hwalk : s.window.walk ≠ .seals → s.window.start.toNat ≤ p.toNat ∧ p.toNat ≤ s.window.stop.toNat)
    (hseals : s.window.walk = .seals → s.window.start.toNat ≤ p.toNat / 256 ∧
      p.toNat / 256 ≤ s.window.stop.toNat ∧ 240 ≤ p.toNat % 256) :
    WindowOk { s with window := { s.window with ptr := p } } :=
  ⟨fun hkind => ⟨(h.1 hkind).1, hwalk hkind⟩,
    fun hkind => ⟨(h.2.1 hkind).1, (h.2.1 hkind).2.1, hseals hkind⟩, h.2.2⟩

theorem moved_of_wrap {w : Window} (h : w.walk = .wrap) :
    w.moved = { w with ptr := (if w.ptr.toNat < w.stop.toNat then w.ptr + 1 else w.start) } := by
  unfold Window.moved
  rw [h]

theorem moved_of_oneshot {w : Window} (h : w.walk = .oneshot) :
    w.moved = if w.ptr.toNat < w.stop.toNat then { w with ptr := w.ptr + 1 } else { w with exhausted := true } := by
  unfold Window.moved
  rw [h]

theorem moved_of_seals {w : Window} (h : w.walk = .seals) : w.moved = { w with ptr :=
    (if w.ptr.toNat % 256 < 255 then w.ptr + 1
      else if w.ptr.toNat / 256 < w.stop.toNat then w.ptr + 241 else walkStart .seals w.start) } := by
  unfold Window.moved
  rw [h]
  dsimp only
  split_ifs <;> rfl

theorem toNat_add_of_lt {p k : Half} (h : p.toNat + k.toNat < 65536) : (p + k).toNat = p.toNat + k.toNat := by
  rw [BitVec.toNat_add]
  omega

/-- A transfer leaves the pointer in the range (R133, R134). -/
theorem windowOk_moved {s : State} (h : WindowOk s) : WindowOk { s with window := s.window.moved } := by
  obtain ⟨hwalk, hseals, hspent⟩ := id h
  have hptr := s.window.ptr.isLt
  have hstop := s.window.stop.isLt
  have h1 : (1 : Half).toNat = 1 := rfl
  have h241 : (241 : Half).toNat = 241 := rfl
  have hnext (hlt : s.window.ptr.toNat + 1 < 65536) := toNat_add_of_lt (p := s.window.ptr) (k := 1) hlt
  have hleaf (hlt : s.window.ptr.toNat + 241 < 65536) := toNat_add_of_lt (p := s.window.ptr) (k := 241) hlt
  cases hkind : s.window.walk with
  | wrap =>
    obtain ⟨hsize, hstart, hend⟩ := hwalk (by simp [hkind])
    rw [moved_of_wrap hkind]
    refine windowOk_ptr h (fun _ => ?_) (fun hx => absurd (hkind.symm.trans hx) nofun)
    split_ifs with hlast <;> omega
  | oneshot =>
    obtain ⟨hsize, hstart, hend⟩ := hwalk (by simp [hkind])
    rw [moved_of_oneshot hkind]
    split_ifs with hlast
    · exact windowOk_ptr h (fun _ => by omega) (fun hx => absurd (hkind.symm.trans hx) nofun)
    · exact ⟨fun _ => ⟨hsize, hstart, hend⟩, fun hx => absurd (hkind.symm.trans hx) nofun, fun _ => hkind⟩
  | seals =>
    obtain ⟨hspace, hrange, hstart, hend, hoffset⟩ := hseals hkind
    have hfirst : (walkStart .seals s.window.start).toNat = 256 * s.window.start.toNat + 240 := by
      rw [walkStart_seals, BitVec.toNat_ofNat]
      omega
    rw [moved_of_seals hkind]
    refine windowOk_ptr h (fun hx => absurd hkind hx) (fun _ => ?_)
    split_ifs with hinside hlast <;> omega

/-- WINSET accepts what the window's range says (R132). -/
theorem windowOk_winsetEffect {space walk : Byte} {start stop : Half} (s : State)
    (h : winsetOperands space walk start stop = true) : WindowOk (winsetEffect space walk start stop s) := by
  unfold winsetOperands at h
  unfold winsetEffect
  split at h
  · next sp hsp hwk =>
    simp only [Bool.and_eq_true, beq_iff_eq, decide_eq_true_eq] at h
    obtain ⟨⟨hcapture, hstop⟩, hstart⟩ := h
    have hfirst : (walkStart .seals start).toNat = 256 * start.toNat + 240 := by
      rw [walkStart_seals, BitVec.toNat_ofNat]
      omega
    have hfirstOk : start.toNat ≤ (walkStart .seals start).toNat / 256 ∧
        (walkStart .seals start).toNat / 256 ≤ stop.toNat ∧ 240 ≤ (walkStart .seals start).toNat % 256 := by omega
    simp only [hsp, hwk]
    exact ⟨fun hx => absurd rfl hx, fun _ => ⟨hcapture, hstop, hfirstOk⟩, nofun⟩
  · next sp wk hkind hsp hwk =>
    simp only [Bool.and_eq_true, decide_eq_true_eq] at h
    obtain ⟨hstop, hstart⟩ := h
    have hfirst : walkStart wk start = start := by
      cases wk <;> first | rfl | exact absurd rfl hkind
    simp only [hsp, hwk, hfirst]
    exact ⟨fun _ => ⟨hstop, Nat.le_refl _, hstart⟩, fun hx => absurd hx hkind, nofun⟩
  · exact absurd h Bool.false_ne_true

/-! ## The stores -/

theorem windowOk_reset : WindowOk State.reset := by decide

/-- The stores and the window as O55 names them. -/
def StoresAndWindow (s : State) : Prop := StoresOk s ∧ WindowOk s

/-- What leaves the window, the directory and the freeze image alone, and capture memory in canonical form. -/
theorem StoresAndWindow.of_capture {s t : State} (h : StoresAndWindow s)
    (hcapture : s.capture.wf 65536 → t.capture.wf 65536) (hdirectory : t.directory = s.directory)
    (hfreeze : t.freeze = s.freeze) (hwindow : t.window = s.window) : StoresAndWindow t := by
  obtain ⟨⟨hcap, hdir, hfrz⟩, hwin⟩ := h
  refine ⟨⟨hcapture hcap, ?_, ?_⟩, ?_⟩
  · rw [hdirectory]; exact hdir
  · rw [hfreeze]; exact hfrz
  · unfold WindowOk
    rw [hwindow]
    exact hwin

theorem wf_recctlEffect (target start : Byte) {s : State} (hwf : s.capture.wf 65536) :
    (recctlEffect target start s).capture.wf 65536 := by
  rcases recctlEffect_cases target start s with h | ⟨e, t, _, _, _, _, h⟩ | ⟨_, _, h⟩ | ⟨_, h⟩ | ⟨_, h⟩ <;> rw [h]
  · exact hwf
  · unfold recorderStarts
    exact wf_arrive hwf _ _
  · exact hwf
  · exact hwf
  · simpa [recorderStops] using hwf

theorem wf_releaseEffect (leaf : Byte) {s : State} (hwf : s.capture.wf 65536) :
    (releaseEffect leaf s).capture.wf 65536 := by
  have hcleared := wf_writeLeaf (bytes := List.replicate 16 0) hwf leaf (offset := 240)
    (by rw [List.length_replicate])
  unfold releaseEffect
  dsimp only
  split_ifs
  · rw [leafEntry_eq_arrive]
    exact wf_arrive hcleared _ _
  · exact hcleared
  · exact hwf

theorem wf_snapImage (selection : Byte) {s : State} (h : s.freeze.wf 196) : (snapImage selection s).wf 196 := by
  unfold snapImage
  exact Memory.wf_writeAll (wf_bankCopiedIf (wf_bankCopiedIf (wf_bankCopiedIf (wf_bankCopiedIf h _ _ _) _ _ _) _ _ _)
    _ _ _) (by simp)

theorem storesAndWindow_effect {c : Instr} (hc : (commandBytes c).isSome = true) {s : State}
    (hdone : answerTo c s = .done) (h : StoresAndWindow s) : StoresAndWindow (effectOf c s) := by
  cases c
  case winset space walk start stop =>
    obtain ⟨hstores, -⟩ := h
    refine ⟨?_, windowOk_winsetEffect s (operandsInRange_of_done hdone)⟩
    simpa [StoresOk] using hstores
  case banksnap selection =>
    obtain ⟨⟨hcap, hdir, hfrz⟩, hwin⟩ := h
    rw [effectOf_banksnap, banksnapEffect_eq]
    exact ⟨⟨hcap, hdir, wf_snapImage selection hfrz⟩, hwin⟩
  case recctl target start => exact h.of_capture (wf_recctlEffect target start) (by simp) (by simp) (by simp)
  case release leaf => exact h.of_capture (wf_releaseEffect leaf) (by simp) (by simp) (by simp)
  case notemark leaf =>
    exact h.of_capture (fun hwf => wf_writeLeaf hwf leaf (by rw [List.length_singleton]; omega)) rfl rfl rfl
  case sealnow => exact h.of_capture wf_sealLeaf (by simp) (by simp) (by simp)
  case mark cls tag =>
    refine h.of_capture (fun hwf => ?_) (by simp) (by simp) (by simp)
    rw [effectOf_mark, markEffect]
    exact wf_drain (by simpa using hwf)
  case bankctl control => refine h.of_capture ?_ ?_ ?_ ?_ <;> simp [bankctlEffect_eq, afterBankctl]
  case alertack mask => refine h.of_capture ?_ ?_ ?_ ?_ <;> simp [alertackEffect_eq]
  case wdset e w flags => refine h.of_capture ?_ ?_ ?_ ?_ <;> simp [wdsetEffect_eq]
  case grant | commit | lock | unlock | hold | standby | tbset | incfg | cntset | wrapcfg | reccfg | alertmask | wdkick |
      wdoff | nop | sysreset =>
    refine h.of_capture ?_ ?_ ?_ ?_ <;>
      simp [commitEffect, holdEffect, tbsetEffect, wrapcfgEffect, reccfgEffect, alertmaskEffect]
  all_goals exact absurd hc Bool.false_ne_true

theorem storesAndWindow_rules : StepRules StoresAndWindow where
  same hs ht := by
    obtain ⟨hstores, hwin⟩ := hs
    refine ⟨?_, ?_⟩
    · rw [StoresOk, ht.capture, ht.directory, ht.freeze]
      exact hstores
    · rw [WindowOk, ht.space, ht.walk, ht.start, ht.stop, ht.ptr, ht.exhausted]
      exact hwin
  count k hs := hs.of_capture (by simp) (by simp) (by simp) (by simp)
  frameError hs := hs
  alert _ hs := hs
  moved hs := ⟨hs.1, windowOk_moved hs.2⟩
  stored {s} b hrefused hspace hs := by
    obtain ⟨⟨hcap, hdir, hfrz⟩, hwin⟩ := hs
    have haddress : s.window.ptr.toNat < s.window.space.size := of_decide_eq_true hspace
    unfold storeByte
    cases hkind : s.window.space <;> rw [hkind] at haddress
    · exact ⟨⟨Memory.wf_write hcap haddress b, hdir, hfrz⟩, hwin⟩
    · exact ⟨⟨hcap, Memory.wf_write hdir haddress b, hfrz⟩, hwin⟩
    · exact ⟨⟨hcap, hdir, hfrz⟩, hwin⟩
  effect hc _ hdone hs := storesAndWindow_effect hc hdone hs
  held _ _ hs := hs
  heldTick _ hs := hs
  ends hs := hs.of_capture (by simp) (by simp) (by simp) (by simp)
  drained hs := hs.of_capture wf_drain (by simp) (by simp) (by simp)
  offered _ _ hs := hs.of_capture (by simp) (by simp) (by simp) (by simp)
  granted _ hs := hs.of_capture (by simp) (by simp) (by simp) (by simp)
  supervised _ hs := hs.of_capture (by simp) (by simp) (by simp) (by simp)
  sampled hs := hs.of_capture (by simp) (by simp) (by simp) (by simp)
  woken hs := hs
  reset prm hs := ⟨⟨hs.1.1, hs.1.2.1, Memory.wf_nil _⟩, windowOk_reset⟩
  pinReset _ hs := hs
  released p hs := ⟨⟨hs.1.1, hs.1.2.1, Memory.wf_nil _⟩, windowOk_reset⟩
  opened straps p hs := ⟨State.reset_stores_wf, windowOk_reset⟩
  powered p ev hs ht := by
    obtain rfl := Host.Outcome.next.inj ht
    exact ⟨⟨hs.1.1, hs.1.2.1, Memory.wf_nil _⟩, windowOk_reset⟩
  lost hs ht := by
    obtain rfl := Host.Outcome.next.inj ht
    exact ⟨⟨hs.1.1, hs.1.2.1, Memory.wf_nil _⟩, windowOk_reset⟩
  swept {s} _ hsweep hs := by
    obtain ⟨⟨hcap, hdir, hfrz⟩, hwin⟩ := hs
    unfold sweepByte
    split_ifs with hcapture
    · exact ⟨⟨Memory.wf_write hcap hcapture 0, hdir, hfrz⟩, hwin⟩
    · have hdirectory : s.sweep - Config.captureBytes < Config.directoryBytes := by
        unfold Config.sweepPeriods at hsweep
        unfold Config.captureBytes at hcapture ⊢
        unfold Config.directoryBytes
        omega
      exact ⟨⟨hcap, Memory.wf_write hdir hdirectory 0, hfrz⟩, hwin⟩
  sweptAll _ hs := ⟨⟨Memory.wf_nil _, Memory.wf_nil _, hs.1.2.2⟩, hs.2⟩

end Sys2Proof.Machine

open Sys2Proof Sys2Proof.Machine Sys2Proof.Safety

/-- Settles O55: each operation of a row stores at an address of its store, and moves the pointer inside its range. -/
theorem stepKeepsStoresAndWindow : Obligations.StepKeepsStoresAndWindow := by
  unfold Obligations.StepKeepsStoresAndWindow
  intro s t hstores hwindow ht
  exact storesAndWindow_rules.step ht ⟨hstores, hwindow⟩

end

section
-- One declaration at a time: in parallel the threads of the whole text take more memory than the check allows.
set_option Elab.async false

/-! SUPPORT. The hold, the supervisor, RDY, HRST# and STANDBY stay as the reference promises them (O58). -/

namespace Sys2Proof.Machine

open Sys2Proof.Safety

/-- The promises of O58. -/
structure HostSideOk (s : State) : Prop where
  hold : HoldOk s
  supervisor : SupervisorOk s
  pins : PinsOk s
  standby : StandbyOk s

theorem hostSideOk_reset : HostSideOk State.reset :=
  ⟨by decide, by decide, by decide, by decide⟩

/-- What leaves the hold, the supervisor, the output pins, the life cycle and the power alone. -/
theorem HostSideOk.of_eq {s t : State} (h : HostSideOk s) (hhold : t.hold = s.hold)
    (hsupervisor : t.supervisor = s.supervisor) (hpins : t.outPins = s.outPins) (hlife : t.life = s.life)
    (hpower : t.power = s.power) : HostSideOk t := by
  obtain ⟨hh, hs, hp, hst⟩ := h
  refine ⟨?_, ?_, ?_, ?_⟩
  · rw [HoldOk, hhold]; exact hh
  · rw [SupervisorOk, hsupervisor]; exact hs
  · rw [PinsOk, linkUp, hpins, hsupervisor, hlife]; exact hp
  · rw [StandbyOk, hsupervisor, hpower]; exact hst

/-- The hold alone changes. -/
theorem HostSideOk.of_hold {s : State} (h : HostSideOk s) {x : Hold} (hx : HoldOk { s with hold := x }) :
    HostSideOk { s with hold := x } :=
  ⟨hx, h.supervisor, h.pins, h.standby⟩

/-- The supervisor alone changes, outside PULSING before and after. -/
theorem HostSideOk.of_supervisor {s : State} (h : HostSideOk s) {w : Supervisor}
    (hw : SupervisorOk { s with supervisor := w }) (hbefore : s.supervisor.phase ≠ .pulsing) (hafter : w.phase ≠ .pulsing)
    (hstandby : s.supervisor.state = .off → w.state = .off) : HostSideOk { s with supervisor := w } := by
  refine ⟨h.hold, hw, ⟨h.pins.1, fun hup => ?_, h.pins.2.2⟩, fun hx => hstandby (h.standby hx)⟩
  exact ⟨fun hx => absurd ((h.pins.2.1 hup).1 hx) hbefore, fun hx => absurd hx hafter⟩

/-! ## Step 3 of a tick -/

theorem two_pow_pred {e : Nat} (he : 1 ≤ e) : 2 ^ e = 2 * 2 ^ (e - 1) := by
  rw [← Nat.pow_succ', Nat.succ_eq_add_one, Nat.sub_add_cancel he]

theorem hostSideOk_offerSupervisor (fired : Bool) {s : State} (h : HostSideOk s) :
    HostSideOk (offerSupervisor fired s) := by
  unfold offerSupervisor
  split_ifs
  · exact h.of_eq (by simp) (by simp) (by simp) (by simp) (by simp)
  · exact h

/-- Step 3 of a tick keeps the promises (R159 to R161): below the whole time the count goes up, at it the supervisor
fires, and the pulse counts down to its end. -/
theorem hostSideOk_supervisorStep {s : State} (hup : linkUp s = true) (h : HostSideOk s) :
    HostSideOk (supervisorStep s) := by
  obtain ⟨he, he', hw, hoff, hpulsing, hquiet⟩ := h.supervisor
  have hhalf := two_pow_pred (e := s.supervisor.e) (by omega)
  have hpos : 0 < 2 ^ (s.supervisor.e - 1) := Nat.two_pow_pos _
  unfold supervisorStep
  dsimp only
  by_cases hrunning : s.supervisor.running = true
  swap
  · rw [if_pos (by simp [hrunning])]
    exact h
  have hon : s.supervisor.state ≠ .off := by simpa [Supervisor.running, bne_iff_ne] using hrunning
  have hrun : s.power ≠ .standby := fun hx => hon (h.standby hx)
  rw [if_neg (by simp [hrunning])]
  by_cases hphase : s.supervisor.phase = .pulsing
  · rw [if_pos (by simp [hphase])]
    unfold pulseStep
    dsimp only
    split_ifs with hlast
    · exact ⟨h.hold, ⟨he, he', hw, fun _ => ⟨rfl, rfl⟩, nofun, fun _ => ⟨Nat.two_pow_pos _, rfl⟩⟩,
        ⟨h.pins.1, fun _ => ⟨nofun, nofun⟩, fun hdown => absurd hup (by simpa [linkUp] using hdown)⟩, h.standby⟩
    · have hleft : s.supervisor.pulse - 1 ≠ 0 := by
        intro hzero
        apply hlast
        bv_omega
      exact ⟨h.hold, ⟨he, he', hw, fun hx => absurd hx hon, fun _ => ⟨(hpulsing hphase).1, hleft⟩,
        fun hx => absurd hphase hx⟩, h.pins, h.standby⟩
  rw [if_neg (by simp [hphase])]
  obtain ⟨hcount, hpulse⟩ := hquiet hphase
  have hstays (n : Nat) (p : WdPhase) (hn : n < 2 ^ s.supervisor.e) (hp : p ≠ .pulsing) :
      HostSideOk { s with supervisor := { s.supervisor with count := n, phase := p } } :=
    h.of_supervisor ⟨he, he', hw, fun hx => absurd hx hon, fun hx => absurd hx hp, fun _ => ⟨hn, hpulse⟩⟩ hphase hp id
  split_ifs with hhalfway hwarns hwhole
  · unfold warnHost
    refine hostSideOk_offerSupervisor false ((hstays (s.supervisor.count + 1) .warned (by omega) nofun).of_eq
      rfl rfl rfl rfl rfl)
  · exact hstays _ _ (by omega) hphase
  · unfold fireHost
    refine hostSideOk_offerSupervisor true (HostSideOk.of_eq (s := { s with
      supervisor := { s.supervisor with
        count := s.supervisor.count + 1, phase := .pulsing, pulse := s.supervisor.w, tally := satInc s.supervisor.tally }
      outPins := { s.outPins with hrstLow := true } }) ?_ (by simp) (by simp) (by simp) (by simp) (by simp))
    exact ⟨h.hold, ⟨he, he', hw, fun hx => absurd hx hon, fun _ => ⟨hwhole, hw⟩, fun hx => absurd rfl hx⟩,
      ⟨h.pins.1, fun _ => ⟨fun _ => rfl, fun _ => rfl⟩, fun hdown => absurd hup (by simpa [linkUp] using hdown)⟩,
      fun hx => absurd hx hrun⟩
  · exact hstays _ _ (by omega) hphase

/-! ## The commands -/

theorem hostSideOk_wdset {e w flags : Byte} {s : State} (hdone : answerTo (.wdset e w flags) s = .done)
    (h : HostSideOk s) : HostSideOk (wdsetEffect e w flags s) := by
  have hrange := operandsInRange_of_done hdone
  have hstate : ((if s.supervisor.phase == .pulsing then some .state else none) : Option Result).getD .done = .done :=
    stateRefusal_of_done hdone
  simp only [operandsInRange, wdsetOperands, Bool.and_eq_true, decide_eq_true_eq, bne_iff_ne] at hrange
  obtain ⟨⟨⟨he, he'⟩, hw⟩, -⟩ := hrange
  have hphase : s.supervisor.phase ≠ .pulsing := fun hx => by simp [hx] at hstate
  obtain ⟨-, -, -, hoff, -, hquiet⟩ := h.supervisor
  unfold wdsetEffect
  dsimp only
  split_ifs with hrunning
  · have hon : s.supervisor.state ≠ .off := by simpa [Supervisor.running, bne_iff_ne] using hrunning
    exact h.of_supervisor ⟨he, he', hw, fun _ => ⟨rfl, rfl⟩, nofun, fun _ => ⟨Nat.two_pow_pos _, (hquiet hphase).2⟩⟩
      hphase nofun id
  · have hstill : s.supervisor.state = .off := by simpa [Supervisor.running, bne_iff_ne] using hrunning
    obtain ⟨-, hcount⟩ := hoff hstill
    refine h.of_supervisor ⟨he, he', hw, hoff, fun hx => absurd hx hphase, fun _ => ⟨?_, (hquiet hphase).2⟩⟩ hphase
      hphase id
    show s.supervisor.count < 2 ^ e.toNat
    rw [hcount]
    exact Nat.two_pow_pos _

theorem hostSideOk_wdkick {guard : Byte} {s : State} (hdone : answerTo (.wdkick guard) s = .done) (h : HostSideOk s) :
    HostSideOk (wdkickEffect s) := by
  have hstate : ((if s.supervisor.state == .off || s.supervisor.phase == .pulsing then some .state else none) :
      Option Result).getD .done = .done := stateRefusal_of_done hdone
  have hphase : s.supervisor.phase ≠ .pulsing := fun hx => by simp [hx] at hstate
  have hon : s.supervisor.state ≠ .off := fun hx => by simp [hx] at hstate
  obtain ⟨he, he', hw, -, -, hquiet⟩ := h.supervisor
  unfold wdkickEffect
  refine HostSideOk.of_eq (s := { s with supervisor := { s.supervisor with count := 0, phase := .quiet, state := .watch } })
    ?_ (by simp) (by simp) (by simp) (by simp) (by simp)
  exact h.of_supervisor ⟨he, he', hw, nofun, nofun, fun _ => ⟨Nat.two_pow_pos _, (hquiet hphase).2⟩⟩ hphase nofun
    (fun hx => absurd hx hon)

theorem hostSideOk_wdoff {guard : Byte} {s : State} (hdone : answerTo (.wdoff guard) s = .done) (h : HostSideOk s) :
    HostSideOk (wdoffEffect s) := by
  have hstate : ((if s.supervisor.state == .watch || s.supervisor.phase == .pulsing then some .state else none) :
      Option Result).getD .done = .done := stateRefusal_of_done hdone
  have hphase : s.supervisor.phase ≠ .pulsing := fun hx => by simp [hx] at hstate
  obtain ⟨he, he', hw, -, -, -⟩ := h.supervisor
  unfold wdoffEffect
  split_ifs
  · exact h.of_supervisor ⟨he, he', hw, fun _ => ⟨rfl, rfl⟩, nofun, fun _ => ⟨Nat.two_pow_pos _, rfl⟩⟩ hphase nofun
      fun _ => rfl
  · exact h

theorem hostSideOk_commit {s : State} (hup : linkUp s = true) (h : HostSideOk s) : HostSideOk (commitEffect s) := by
  obtain ⟨he, he', hw, hoff, hpulsing, hquiet⟩ := h.supervisor
  have hstate : (commitEffect s).supervisor.state = .off ↔ s.supervisor.state = .off := by
    unfold commitEffect
    dsimp only
    split_ifs with hopen <;> simp [hopen]
  exact ⟨h.hold, ⟨he, he', hw, fun hx => hoff (hstate.1 hx), hpulsing, hquiet⟩,
    ⟨⟨fun _ => rfl, fun _ => rfl⟩, fun _ => h.pins.2.1 hup, nofun⟩, fun hx => hstate.2 (h.standby hx)⟩

theorem hostSideOk_standby {guard : Byte} {s : State} (hdone : answerTo (.standby guard) s = .done) (h : HostSideOk s) :
    HostSideOk (standbyEffect s) := by
  have hoff : s.supervisor.state = .off := by
    have hstate : ((if s.supervisor.state == .off then none else some .state) : Option Result).getD .done = .done :=
      stateRefusal_of_done hdone
    by_contra hon
    simp [hon] at hstate
  unfold standbyEffect
  split_ifs
  · exact ⟨h.hold, h.supervisor, h.pins, fun _ => hoff⟩
  · exact h

theorem hostSideOk_hold {n : Byte} {s : State} (hdone : answerTo (.hold n) s = .done) (h : HostSideOk s) :
    HostSideOk (holdEffect n s) := by
  have hrange := operandsInRange_of_done hdone
  simp only [operandsInRange, Bool.and_eq_true, decide_eq_true_eq, bne_iff_ne] at hrange
  obtain ⟨hne, hle⟩ := hrange
  have hpos : 1 ≤ n.toNat := by bv_omega
  exact h.of_hold ⟨fun _ => ⟨hpos, hle⟩, nofun⟩

theorem hostSideOk_effect {c : Instr} (hc : (commandBytes c).isSome = true) {s : State} (hup : linkUp s = true)
    (hdone : answerTo c s = .done) (h : HostSideOk s) : HostSideOk (effectOf c s) := by
  cases c
  case wdset => exact hostSideOk_wdset hdone h
  case wdkick => exact hostSideOk_wdkick hdone h
  case wdoff => exact hostSideOk_wdoff hdone h
  case commit => exact hostSideOk_commit hup h
  case standby => exact hostSideOk_standby hdone h
  case hold => exact hostSideOk_hold hdone h
  case bankctl control => refine h.of_eq ?_ ?_ ?_ ?_ ?_ <;> simp [bankctlEffect_eq, afterBankctl]
  case alertack mask => refine h.of_eq ?_ ?_ ?_ ?_ ?_ <;> simp [alertackEffect_eq]
  case grant | lock | unlock | tbset | incfg | banksnap | cntset | wrapcfg | recctl | reccfg | release | notemark |
      sealnow | mark | winset | alertmask | nop | sysreset =>
    refine h.of_eq ?_ ?_ ?_ ?_ ?_ <;>
      simp [tbsetEffect, wrapcfgEffect, reccfgEffect, notemarkEffect, alertmaskEffect]
  all_goals exact absurd hc Bool.false_ne_true

theorem hostSideOk_rules : StepRules HostSideOk where
  same hs ht := hs.of_eq ht.hold ht.supervisor ht.outPins ht.life ht.power
  count k hs := hs.of_eq (by simp) (by simp) (by simp) (by simp) (by simp)
  frameError hs := hs.of_eq rfl rfl rfl rfl rfl
  alert hup hs := ⟨hs.hold, hs.supervisor, ⟨hs.pins.1, hs.pins.2.1, fun hdown => absurd hup (by simpa [linkUp] using hdown)⟩,
    hs.standby⟩
  moved hs := hs.of_eq rfl rfl rfl rfl rfl
  stored {s} b _ _ hs := by
    unfold storeByte
    split <;> exact hs.of_eq rfl rfl rfl rfl rfl
  effect hc hup hdone hs := hostSideOk_effect hc hup hdone hs
  held {s} hactive hleft hs := by
    obtain ⟨-, hle⟩ := hs.hold.1 hactive
    have hcount : 1 ≤ s.hold.remaining - 1 ∧ s.hold.remaining - 1 ≤ 4 := by omega
    exact hs.of_hold ⟨fun _ => hcount, fun hx => absurd (hactive.symm.trans hx) nofun⟩
  heldTick hactive hs := hs.of_hold ⟨fun _ => hs.hold.1 hactive, fun hx => absurd (hactive.symm.trans hx) nofun⟩
  ends {s} hs := by
    refine HostSideOk.of_eq (s := { s with hold := { active := false, remaining := 0, ticks := 0, alertLow := false } })
      (hs.of_hold ⟨nofun, fun _ => ⟨rfl, rfl⟩⟩) ?_ ?_ ?_ ?_ ?_
    · exact endHold_hold s
    all_goals simp
  drained hs := hs.of_eq (by simp) (by simp) (by simp) (by simp) (by simp)
  offered _ _ hs := hs.of_eq (by simp) (by simp) (by simp) (by simp) (by simp)
  granted _ hs := hs.of_eq (by simp) (by simp) (by simp) (by simp) (by simp)
  supervised hup hs := hostSideOk_supervisorStep hup hs
  sampled hs := hs.of_eq (by simp) (by simp) (by simp) (by simp) (by simp)
  woken hs := ⟨hs.hold, hs.supervisor, hs.pins, nofun⟩
  reset prm _ := hostSideOk_reset.of_eq rfl rfl rfl rfl rfl
  pinReset _ hs := ⟨hostSideOk_reset.hold, hs.supervisor, ⟨⟨nofun, nofun⟩, nofun, fun _ => ⟨rfl, rfl⟩⟩, hs.standby⟩
  released p _ := hostSideOk_reset.of_eq rfl rfl rfl rfl rfl
  opened straps p _ := hostSideOk_reset.of_eq rfl rfl rfl rfl rfl
  powered p ev _ ht := by
    obtain rfl := Host.Outcome.next.inj ht
    exact ⟨hostSideOk_reset.hold, hostSideOk_reset.supervisor, ⟨⟨nofun, nofun⟩, nofun, fun _ => ⟨rfl, rfl⟩⟩,
      hostSideOk_reset.standby⟩
  lost _ ht := by
    obtain rfl := Host.Outcome.next.inj ht
    exact ⟨hostSideOk_reset.hold, hostSideOk_reset.supervisor, ⟨⟨nofun, nofun⟩, nofun, fun _ => ⟨rfl, rfl⟩⟩,
      hostSideOk_reset.standby⟩
  swept {s} _ _ hs := by
    unfold sweepByte
    split_ifs <;> exact hs.of_eq rfl rfl rfl rfl rfl
  sweptAll _ hs := hs.of_eq rfl rfl rfl rfl rfl

end Sys2Proof.Machine

open Sys2Proof Sys2Proof.Machine Sys2Proof.Safety

/-- Settles O58: the hold, the supervisor and the pins are kept by each operation of a row. -/
theorem stepKeepsHoldSupervisorAndPins : Obligations.StepKeepsHoldSupervisorAndPins := by
  unfold Obligations.StepKeepsHoldSupervisorAndPins
  intro s t hinv ht
  obtain ⟨hhold, hsupervisor, hpins, hstandby⟩ :=
    hostSideOk_rules.step ht ⟨hinv.hold, hinv.supervisor, hinv.pins, hinv.standby⟩
  exact ⟨hhold, hsupervisor, hpins, hstandby⟩

end

section
-- One declaration at a time: in parallel the threads of the whole text take more memory than the check allows.
set_option Elab.async false

/-! SUPPORT. The recorder's engine moves a few parts of the state by a few operations, so a predicate that these keep is
kept by an offer, by an advance and by the drain. With it the sampling: its countdown runs exactly in Running (R114). -/

namespace Sys2Proof.Machine

open Sys2Proof.Safety

/-- `t` agrees with `s` but for capture memory, the cursor, the leaf's record count and sequence, the snapshot sequence,
the queue and the loss tally. -/
structure SameButWriter (s t : State) : Prop where
  life : t.life = s.life := by rfl
  hold : t.hold = s.hold := by rfl
  units : t.units = s.units := by rfl
  counters : t.counters = s.counters := by rfl
  alerts : t.alerts = s.alerts := by rfl
  countdown : t.recorder.countdown = s.recorder.countdown := by rfl
  deferred : t.recorder.deferred = s.recorder.deferred := by rfl
  missed : t.recorder.missed = s.recorder.missed := by rfl
  config : t.recorder.config = s.recorder.config := by rfl

/-- The operations of the engine keep `P`. -/
structure WriterRules (P : State → Prop) : Prop where
  same {s t : State} : P s → SameButWriter s t → P t
  count {s : State} (k : Fin 45) : P s → P (offerCount k s)
  recordLoss {s : State} : P s → P (raise .recordLoss s)
  sealNote {s : State} : P s → P (raise .sealNote s)
  stopReached {s : State} : P s → P (raise .stopReached s)
  ended {s : State} (entry : BitVec 6) : P s → P (endWalk entry s)
  faulted {s : State} {kind : FaultKind} (entry : BitVec 6) : kind ≠ .none → P s →
    P (raise .chainFault (recordFault kind entry s))

namespace WriterRules

variable {P : State → Prop} (h : WriterRules P)
include h

theorem countLost {s : State} (hs : P s) : P (countLost s) := h.recordLoss (h.count 41 hs)

theorem offer (r : Rec) {s : State} (hs : P s) : P (offer r s) := by
  rcases offer_cases r s with ⟨count, time, hoffer⟩ | hoffer | ⟨count, hoffer⟩ | hoffer <;> rw [hoffer]
  · exact h.countLost (h.same hs {})
  · exact h.same hs {}
  · exact h.countLost (h.same hs {})
  · exact h.same hs {}

theorem offerCounts (k : Fin 45) (n : Nat) {s : State} (hs : P s) : P (offerCounts k n s) := by
  induction n generalizing s with
  | zero => exact hs
  | succ n ih => exact ih (h.count k hs)

theorem discardQueue {s : State} (hs : P s) : P (discardQueue s) := h.same (h.offerCounts 43 _ hs) {}

theorem arrive (entry : BitVec 6) (leaf : Byte) {s : State} (hs : P s) : P (arrive entry leaf s) := by
  cases hsealed : isSealed s leaf with
  | true =>
    rw [arrive_of_sealed hsealed]
    exact h.same hs {}
  | false =>
    rw [arrive_of_open hsealed]
    exact h.same hs {}

theorem advance {s : State} (hs : P s) : P (advance s) := by
  rcases advance_cases s with ⟨entry, leaf, hto, -⟩ | ⟨entry, hto⟩ | ⟨kind, entry, hkind, hto⟩ <;> rw [hto]
  · exact h.arrive entry leaf hs
  · exact h.discardQueue (h.stopReached (h.ended entry hs))
  · exact h.discardQueue (h.faulted entry hkind (h.ended entry hs))

theorem writeSeal {s : State} (hs : P s) : P (writeSeal s) := by
  have hnoted : P (if notifyOf s s.recorder.cursor.leaf then raise .sealNote s else s) := by
    split_ifs
    · exact h.sealNote hs
    · exact hs
  rw [writeSeal_eq]
  refine h.count 44 (h.same hnoted ?_)
  constructor <;> cases hnotify : notifyOf s s.recorder.cursor.leaf <;> simp [sealWritten, hnotify, raise, Cause.bit]

theorem sealLeaf {s : State} (hs : P s) : P (sealLeaf s) := h.advance (h.writeSeal hs)

theorem placeRecord (r : Rec) {s : State} (hs : P s) : P (placeRecord r s) := by
  rw [placeRecord_eq]
  exact h.count 40 (h.same hs {})

theorem dropRecord {s : State} (hs : P s) : P (dropRecord s) := h.recordLoss (h.count 42 (h.same hs {}))

theorem handleRecord (r : Rec) {s : State} (hs : P s) : P (handleRecord r s) := by
  have hsealed := h.sealLeaf hs
  unfold Machine.handleRecord
  dsimp only
  split_ifs
  · exact h.discardQueue (h.count 43 hs)
  · exact h.dropRecord hs
  · exact h.placeRecord r hs
  · exact h.count 43 hsealed
  · exact h.dropRecord hsealed
  · exact h.placeRecord r hsealed

theorem drainList (l : List Rec) {s : State} (hs : P s) : P (drainList l s) := by
  induction l generalizing s with
  | nil => exact h.same hs {}
  | cons r rest ih =>
    have hhandled : P (Machine.handleRecord r { s with recorder := { s.recorder with queue := rest } }) :=
      h.handleRecord r (h.same hs {})
    rw [Machine.drainList]
    dsimp only
    split_ifs
    · exact ih hhandled
    · exact hhandled

theorem drain {s : State} (hs : P s) : P (drain s) := h.drainList _ hs

theorem offerSnapshot (deferred : Bool) (missed : BitVec 4) {s : State} (hs : P s) :
    P (offerSnapshot deferred missed s) :=
  h.same (h.offer (snapshotRecord deferred missed s) hs) {}

end WriterRules

/-! ## Sampling -/

theorem samplingOk_of_eq {s t : State} (h : SamplingOk s) (hcountdown : t.recorder.countdown = s.recorder.countdown)
    (hdeferred : t.recorder.deferred = s.recorder.deferred) (hmissed : t.recorder.missed = s.recorder.missed)
    (hunit : t.units.recorder = s.units.recorder) (hhold : t.hold.active = s.hold.active) : SamplingOk t := by
  unfold SamplingOk RecorderIdle
  rw [hcountdown, hdeferred, hmissed, hunit, hhold]
  exact h

theorem samplingOk_writerRules : WriterRules SamplingOk where
  same hs ht := samplingOk_of_eq hs ht.countdown ht.deferred ht.missed (by rw [ht.units]) (by rw [ht.hold])
  count k hs := samplingOk_of_eq hs (by simp) (by simp) (by simp) (by simp) (by simp)
  recordLoss hs := hs
  sealNote hs := hs
  stopReached hs := hs
  ended {s} entry hs := by
    rw [endWalk_eq]
    unfold walkEnded
    by_cases hrunning : s.units.recorder = .running
    · rw [if_pos hrunning, if_pos hrunning]
      exact ⟨⟨nofun, nofun⟩, nofun, hs.2.2.1, hs.2.2.2.1, nofun⟩
    · rw [if_neg hrunning, if_neg hrunning]
      exact hs
  faulted entry _ hs := by
    rw [raise_recordFault_eq]
    exact hs

theorem samplingOk_deferSample {s : State} (hactive : s.hold.active = true) (hbusy : s.units.recorder = .running)
    (h : SamplingOk s) : SamplingOk (deferSample s) := by
  obtain ⟨hcount, hzero, -, -, -⟩ := h
  have hidle : ¬RecorderIdle s := by simp [RecorderIdle, hbusy, UnitState.idle]
  unfold deferSample
  split_ifs with hdeferred
  · exact ⟨hcount, hzero, fun _ => hactive, fun hx => absurd (hdeferred.symm.trans hx) nofun, fun hx => absurd hx hidle⟩
  · exact ⟨hcount, hzero, fun _ => hactive, nofun, fun hx => absurd hx hidle⟩

/-- Step 6 of a tick (R114 to R116). -/
theorem samplingOk_sampleStep {s : State} (hconfig : ConfigOk s) (h : SamplingOk s) : SamplingOk (sampleStep s) := by
  obtain ⟨hcount, hzero, hdeferred, hmissed, hidle⟩ := id h
  unfold sampleStep
  by_cases hrunning : recording s = true
  swap
  · rw [if_neg hrunning]
    exact h
  have hbusy := (recording_iff s).1 hrunning
  rw [if_pos hrunning]
  cases hleft : s.recorder.countdown with
  | none => exact h
  | some n =>
    have hreloaded (m : BitVec 24) (hm : m ≠ 0) :
        SamplingOk { s with recorder := { s.recorder with countdown := some m } } :=
      ⟨⟨fun _ => hbusy, fun _ => rfl⟩, fun hx => hm (Option.some.inj hx), hdeferred, hmissed, hidle⟩
    dsimp only
    split_ifs with hlast hsnap hhold
    · exact hreloaded _ hconfig.1
    · exact samplingOk_deferSample hhold hbusy (hreloaded _ hconfig.1)
    · exact samplingOk_writerRules.offerSnapshot false 0 (hreloaded _ hconfig.1)
    · exact hreloaded _ hlast

/-- The end of a hold settles the deferral (R116). -/
theorem samplingOk_endHold {s : State} (h : SamplingOk s) : SamplingOk (endHold s) := by
  obtain ⟨hcount, hzero, -, hmissed, -⟩ := h
  have hunit : (endHold s).units = s.units := by simp
  have hcountdown : (endHold s).recorder.countdown = s.recorder.countdown := by
    unfold endHold settleDeferral
    dsimp only
    split_ifs <;> simp [offerSnapshot]
  refine ⟨?_, ?_, fun hx => absurd (hx.symm.trans (endHold_deferred s)) nofun, fun _ => endHold_missed hmissed,
    fun _ => endHold_deferred s⟩
  · rw [hunit, hcountdown]
    exact hcount
  · rw [hcountdown]
    exact hzero

end Sys2Proof.Machine
end

section
-- One declaration at a time: in parallel the threads of the whole text take more memory than the check allows.
set_option Elab.async false

/-! SUPPORT. Idle banks stay at 0, and the pending set agrees with the units and the fault detail (O57): what each
operation does to the four promises. -/

namespace Sys2Proof.Machine

open Sys2Proof.Safety

/-! ## Bits of the pending set -/

theorem or_and_eq_zero_iff (x b m : Half) : (x ||| b) &&& m = 0 ↔ x &&& m = 0 ∧ b &&& m = 0 := by
  rw [BitVec.and_comm, BitVec.and_or_distrib_left, BitVec.and_comm m x, BitVec.and_comm m b]
  exact BitVec.or_eq_zero_iff

theorem and_and_eq_zero {x m : Half} (k : Half) (h : x &&& m = 0) : x &&& k &&& m = 0 := by
  rw [BitVec.and_assoc, BitVec.and_comm k m, ← BitVec.and_assoc, h]
  exact BitVec.zero_and

theorem and_and_eq_zero_of_disjoint {x k m : Half} (h : k &&& m = 0) : x &&& k &&& m = 0 := by
  rw [BitVec.and_assoc, h]
  exact BitVec.and_zero

/-- A removal that spares a cause leaves it as it was. -/
theorem and_and_of_spares {x k m : Half} (h : k &&& m = m) : x &&& k &&& m = x &&& m := by
  rw [BitVec.and_assoc, h]

theorem has_eq_false_iff (a : Alerts) (c : Cause) : a.has c = false ↔ a.raised &&& c.bit = 0 := by
  simp [Alerts.has]

/-! ## The promises, one by one -/

/-- The promises of O57 that the units of the banks, the counters and the alerts decide, apart from what a cause
asks of the units. -/
structure CausesBase (s : State) : Prop where
  idleBanks : IdleBanksZero s
  causes : CausesOk s
  faultDetail : FaultDetailOk s

/-- None of the recorder's causes is pending while it is idle (R150). -/
abbrev RecorderClear (s : State) : Prop := RecorderIdle s → s.alerts.raised &&& recorderCauses = 0

/-- COUNTER_WRAP is not pending while all four banks are idle (R151). -/
abbrev WrapClear (s : State) : Prop := banksIdle s.units = true → s.alerts.has .counterWrap = false

theorem CausesBase.of_eq {s t : State} (h : CausesBase s) (hunits : ∀ b, t.units.bank b = s.units.bank b)
    (hcounters : t.counters = s.counters) (halerts : t.alerts = s.alerts) : CausesBase t := by
  obtain ⟨hidle, hcauses, hfault⟩ := h
  refine ⟨fun k => ?_, ?_, ?_⟩
  · rw [hunits, hcounters]; exact hidle k
  · unfold CausesOk; rw [halerts]; exact hcauses
  · unfold FaultDetailOk; rw [halerts]; exact hfault

/-- Causes join the pending set, CHAIN_FAULT not among them. -/
theorem CausesBase.raised {s : State} (h : CausesBase s) {b : Half} (hb : b &&& 0xFE00 = 0) (hchain : b &&& 1 = 0) :
    CausesBase { s with alerts := { s.alerts with raised := s.alerts.raised ||| b } } := by
  obtain ⟨hidle, ⟨hcauses, hmask⟩, hfault, hentry⟩ := h
  refine ⟨hidle, ⟨(or_and_eq_zero_iff _ _ _).2 ⟨hcauses, hb⟩, hmask⟩, hfault.trans ?_, hentry⟩
  rw [has_eq_false_iff, has_eq_false_iff]
  exact ((or_and_eq_zero_iff _ _ _).trans (and_iff_left hchain)).symm

/-- Causes leave the pending set, CHAIN_FAULT not among them. -/
theorem CausesBase.removed {s : State} (h : CausesBase s) {k : Half} (hchain : k &&& 1 = 1) :
    CausesBase { s with alerts := { s.alerts with raised := s.alerts.raised &&& k } } := by
  obtain ⟨hidle, ⟨hcauses, hmask⟩, hfault, hentry⟩ := h
  refine ⟨hidle, ⟨and_and_eq_zero k hcauses, hmask⟩, hfault.trans ?_, hentry⟩
  rw [has_eq_false_iff, has_eq_false_iff]
  exact (iff_of_eq (congrArg (· = 0) (and_and_of_spares hchain))).symm

/-- Causes leave the pending set, CHAIN_FAULT among them with its detail. -/
theorem CausesBase.cleared {s : State} (h : CausesBase s) {k : Half} (hchain : k &&& 1 = 0) :
    CausesBase { s with alerts := { s.alerts with
      raised := s.alerts.raised &&& k, faultKind := .none, faultEntry := 0 } } := by
  obtain ⟨hidle, ⟨hcauses, hmask⟩, -⟩ := h
  refine ⟨hidle, ⟨and_and_eq_zero k hcauses, hmask⟩, iff_of_true rfl ?_, fun _ => rfl⟩
  rw [has_eq_false_iff]
  exact and_and_eq_zero_of_disjoint hchain

/-- The banks that become idle are cleared (R63, R69). -/
theorem CausesBase.banks {s : State} (h : CausesBase s) {u : Units} {p : Bank → Bool}
    (hp : ∀ b, (u.bank b).idle = true → (s.units.bank b).idle = true ∨ p b = true) :
    CausesBase { s with units := u, counters := clearedBanks p s.counters } := by
  obtain ⟨hidle, hcauses, hfault⟩ := h
  refine ⟨fun k hk => ?_, hcauses, hfault⟩
  dsimp only at hk ⊢
  rw [clearedBanks_value, clearedBanks_wrapped]
  cases hcleared : p (bankOf k) with
  | true => exact ⟨if_pos rfl, Bool.and_false _⟩
  | false =>
    obtain ⟨hvalue, hwrapped⟩ := hidle k ((hp _ hk).resolve_right (by simp [hcleared]))
    exact ⟨(if_neg Bool.false_ne_true).trans hvalue, by rw [hwrapped]; rfl⟩

/-! ## A count -/

theorem bank_of_banksIdle {u : Units} (h : banksIdle u = true) (b : Bank) : (u.bank b).idle = true := by
  simp only [banksIdle, Bool.and_eq_true] at h
  obtain ⟨⟨⟨hedge, hdwell⟩, hlink⟩, htally⟩ := h
  cases b <;> assumption

/-- COUNTER_WRAP alone can join the pending set at a count, and not while the banks are idle (R76, R86). -/
theorem offerCount_raised_cases (c : Fin 45) (s : State) :
    (offerCount c s).alerts.raised = s.alerts.raised ∨
    (banksIdle s.units = false ∧ (offerCount c s).alerts.raised = s.alerts.raised ||| Cause.counterWrap.bit) := by
  by_cases hrunning : s.units.bank (bankOf c) = .running
  · have hbusy : banksIdle s.units = false :=
      eq_false_of_ne_true fun hx => by simpa [hrunning, UnitState.idle] using bank_of_banksIdle hx (bankOf c)
    rw [offerCount_raised]
    split_ifs
    · exact .inr ⟨hbusy, rfl⟩
    · exact .inl rfl
  · rw [offerCount_of_not_running hrunning]
    exact .inl rfl

theorem causesBase_offerCount (c : Fin 45) {s : State} (h : CausesBase s) : CausesBase (offerCount c s) := by
  have halerts : CausesBase { s with alerts := (offerCount c s).alerts } := by
    have hrest : (offerCount c s).alerts = { s.alerts with raised := (offerCount c s).alerts.raised } := by
      obtain ⟨counters, raised, hshape⟩ := offerCount_shape c s
      rw [hshape]
    rw [hrest]
    rcases offerCount_raised_cases c s with hsame | ⟨-, hraised⟩
    · rw [hsame]
      exact h
    · rw [hraised]
      exact h.raised (by decide) (by decide)
  refine ⟨fun k hk => ?_, halerts.causes, halerts.faultDetail⟩
  have hunits : (offerCount c s).units = s.units := by simp
  rw [hunits] at hk
  obtain ⟨hvalue, hwrapped⟩ := h.idleBanks k hk
  have hother : ¬(k = c ∧ s.units.bank (bankOf c) = .running) := by
    rintro ⟨rfl, hrunning⟩
    rw [hrunning] at hk
    exact absurd hk (by decide)
  rw [offerCount_value, if_neg hother, offerCount_wrapped]
  exact ⟨hvalue, by rw [hwrapped, Bool.false_or]; exact decide_eq_false fun hx => hother ⟨hx.1, hx.2.1⟩⟩

theorem recorderClear_offerCount (c : Fin 45) {s : State} (h : RecorderClear s) : RecorderClear (offerCount c s) := by
  intro hidle
  have hclear := h (by simpa [RecorderIdle] using hidle)
  rcases offerCount_raised_cases c s with hsame | ⟨-, hraised⟩
  · rw [hsame]
    exact hclear
  · rw [hraised]
    exact (or_and_eq_zero_iff _ _ _).2 ⟨hclear, by decide⟩

theorem wrapClear_offerCount (c : Fin 45) {s : State} (h : WrapClear s) : WrapClear (offerCount c s) := by
  intro hidle
  have hbanks : banksIdle s.units = true := by simpa using hidle
  have hclear := (has_eq_false_iff _ _).1 (h hbanks)
  rw [has_eq_false_iff]
  rcases offerCount_raised_cases c s with hsame | ⟨hbusy, -⟩
  · rw [hsame]
    exact hclear
  · exact absurd (hbanks.symm.trans hbusy) nofun

theorem causesBase_offerCounts (c : Fin 45) (n : Nat) {s : State} (h : CausesBase s) :
    CausesBase (offerCounts c n s) := by
  induction n generalizing s with
  | zero => exact h
  | succ n ih => exact ih (causesBase_offerCount c h)

theorem wrapClear_offerCounts (c : Fin 45) (n : Nat) {s : State} (h : WrapClear s) : WrapClear (offerCounts c n s) := by
  induction n generalizing s with
  | zero => exact h
  | succ n ih => exact ih (wrapClear_offerCount c h)

/-! ## The four promises together -/

/-- The promises of O57. -/
structure CausesSideOk (s : State) : Prop where
  base : CausesBase s
  recorder : RecorderClear s
  wrap : WrapClear s

theorem causesSideOk_reset : CausesSideOk State.reset :=
  ⟨⟨fun c _ => by simp [State.reset, Counters.reset], by decide, by decide⟩, by decide, by decide⟩

theorem CausesSideOk.of_eq {s t : State} (h : CausesSideOk s) (hunits : t.units = s.units)
    (hcounters : t.counters = s.counters) (halerts : t.alerts = s.alerts) : CausesSideOk t := by
  obtain ⟨hbase, hrecorder, hwrap⟩ := h
  refine ⟨hbase.of_eq (fun b => by rw [hunits]) hcounters halerts, ?_, ?_⟩
  · rw [RecorderClear, RecorderIdle, hunits, halerts]; exact hrecorder
  · rw [WrapClear, hunits, halerts]; exact hwrap

theorem CausesSideOk.count {s : State} (h : CausesSideOk s) (c : Fin 45) : CausesSideOk (offerCount c s) :=
  ⟨causesBase_offerCount c h.base, recorderClear_offerCount c h.recorder, wrapClear_offerCount c h.wrap⟩

/-- A cause that is neither CHAIN_FAULT nor COUNTER_WRAP is raised, one of the recorder's only while it is not idle. -/
theorem CausesSideOk.raise {s : State} (h : CausesSideOk s) {c : Cause} (hchain : c.bit &&& 1 = 0)
    (hwrap : c.bit &&& Cause.counterWrap.bit = 0) (hrecorder : ¬RecorderIdle s ∨ c.bit &&& recorderCauses = 0) :
    CausesSideOk (raise c s) := by
  refine ⟨h.base.raised (by cases c <;> decide) hchain, fun hidle => ?_, fun hbanks => ?_⟩
  · exact (or_and_eq_zero_iff _ _ _).2 ⟨h.recorder hidle, hrecorder.resolve_left (not_not_intro hidle)⟩
  · rw [has_eq_false_iff]
    exact (or_and_eq_zero_iff _ _ _).2 ⟨(has_eq_false_iff _ _).1 (h.wrap hbanks), hwrap⟩

/-- The recorder goes to a state that is not idle. -/
theorem CausesSideOk.unit {s : State} (h : CausesSideOk s) {x : UnitState} (hx : x.idle = false) :
    CausesSideOk { s with units := { s.units with recorder := x } } :=
  ⟨h.base.of_eq (fun b => by cases b <;> rfl) rfl rfl, fun hidle => absurd (hx.symm.trans hidle) nofun, h.wrap⟩

/-! ## The engine -/

/-- The promises of a recorder that is not idle. -/
structure BusyCauses (s : State) : Prop where
  causes : CausesSideOk s
  busy : ¬RecorderIdle s

theorem BusyCauses.of_eq {s t : State} (h : BusyCauses s) (hunits : t.units = s.units)
    (hcounters : t.counters = s.counters) (halerts : t.alerts = s.alerts) : BusyCauses t :=
  ⟨h.causes.of_eq hunits hcounters halerts, by rw [RecorderIdle, hunits]; exact h.busy⟩

theorem busyCauses_writerRules : WriterRules BusyCauses where
  same hs ht := hs.of_eq ht.units ht.counters ht.alerts
  count k hs := ⟨hs.causes.count k, by simpa [RecorderIdle] using hs.busy⟩
  recordLoss hs := ⟨hs.causes.raise (by decide) (by decide) (.inl hs.busy), hs.busy⟩
  sealNote hs := ⟨hs.causes.raise (by decide) (by decide) (.inl hs.busy), hs.busy⟩
  stopReached hs := ⟨hs.causes.raise (by decide) (by decide) (.inl hs.busy), hs.busy⟩
  ended {s} entry hs := by
    have hbusy : (if s.units.recorder = .running then .ready else s.units.recorder).idle = false := by
      split_ifs
      · rfl
      · exact eq_false_of_ne_true hs.busy
    rw [endWalk_eq]
    exact ⟨(hs.causes.unit hbusy).of_eq rfl rfl rfl, fun hx => absurd (hbusy.symm.trans hx) nofun⟩
  faulted {s kind} entry hkind hs := by
    obtain ⟨⟨⟨hidle, ⟨hcauses, hmask⟩, hfault, hentry⟩, -, hwrap⟩, hbusy⟩ := hs
    have hkinds : (if s.alerts.raised.getLsbD 0 then s.alerts.faultKind else kind) ≠ .none := by
      split_ifs with hpending
      · intro hx
        have hnone := hfault.1 hx
        rw [has_chainFault, hpending] at hnone
        exact absurd hnone nofun
      · exact hkind
    rw [raise_recordFault_eq]
    refine ⟨⟨⟨hidle, ⟨(or_and_eq_zero_iff _ _ _).2 ⟨hcauses, by decide⟩, hmask⟩, iff_of_false hkinds ?_,
      fun hx => absurd hx hkinds⟩, fun hx => absurd hx hbusy, fun hbanks => ?_⟩, hbusy⟩
    · rw [has_chainFault]
      simp
    · rw [has_eq_false_iff]
      exact (or_and_eq_zero_iff _ _ _).2 ⟨(has_eq_false_iff _ _).1 (hwrap hbanks), by decide⟩

theorem BusyCauses.of_running {s : State} (h : CausesSideOk s) (hrunning : s.units.recorder = .running) :
    BusyCauses s :=
  ⟨h, by simp [RecorderIdle, hrunning, UnitState.idle]⟩

/-- A placed cursor means a recorder that is not idle (section 7.1). -/
theorem BusyCauses.of_placed {s : State} (h : CausesSideOk s) (hcursor : CursorOk s)
    (hplaced : s.recorder.cursor.placed = true) : BusyCauses s :=
  ⟨h, fun hidle => absurd (hplaced.symm.trans (hcursor.2.1 hidle)) nofun⟩

theorem causesSideOk_offer (r : Rec) {s : State} (hrunning : s.units.recorder = .running) (h : CausesSideOk s) :
    CausesSideOk (offer r s) :=
  (busyCauses_writerRules.offer r (.of_running h hrunning)).causes

theorem causesSideOk_drain {s : State} (hcursor : CursorOk s) (hqueue : QueueOk s) (h : CausesSideOk s) :
    CausesSideOk (drain s) := by
  cases hplaced : s.recorder.cursor.placed with
  | true => exact (busyCauses_writerRules.drain (.of_placed h hcursor hplaced)).causes
  | false =>
    rw [drain_of_empty (hqueue.2 hplaced)]
    exact h

theorem causesSideOk_offerSnapshot (deferred : Bool) (missed : BitVec 4) {s : State}
    (hrunning : s.units.recorder = .running) (h : CausesSideOk s) : CausesSideOk (offerSnapshot deferred missed s) :=
  (busyCauses_writerRules.offerSnapshot deferred missed (.of_running h hrunning)).causes

theorem causesSideOk_sampleStep {s : State} (h : CausesSideOk s) : CausesSideOk (sampleStep s) := by
  unfold sampleStep
  by_cases hrunning : recording s = true
  swap
  · rw [if_neg hrunning]
    exact h
  have hbusy := (recording_iff s).1 hrunning
  rw [if_pos hrunning]
  cases s.recorder.countdown with
  | none => exact h
  | some n =>
    dsimp only
    split_ifs
    · exact h.of_eq rfl rfl rfl
    · refine h.of_eq ?_ ?_ ?_ <;> simp
    · exact causesSideOk_offerSnapshot false 0 hbusy (h.of_eq rfl rfl rfl)
    · exact h.of_eq rfl rfl rfl

theorem causesSideOk_endHold {s : State} (h : CausesSideOk s) : CausesSideOk (endHold s) := by
  unfold endHold settleDeferral
  dsimp only
  split_ifs with _ hrunning
  · exact (causesSideOk_offerSnapshot true _ ((recording_iff _).1 hrunning) (h.of_eq rfl rfl rfl)).of_eq rfl rfl rfl
  · exact h.of_eq rfl rfl rfl
  · exact h.of_eq rfl rfl rfl

theorem causesSideOk_offerSupervisor (fired : Bool) {s : State} (h : CausesSideOk s) :
    CausesSideOk (offerSupervisor fired s) := by
  unfold offerSupervisor
  split_ifs with hoffers
  · simp only [Bool.and_eq_true] at hoffers
    exact causesSideOk_offer _ ((recording_iff s).1 hoffers.1) h
  · exact h

theorem causesSideOk_supervisorStep {s : State} (h : CausesSideOk s) : CausesSideOk (supervisorStep s) := by
  unfold supervisorStep pulseStep
  dsimp only
  split_ifs
  · exact h
  · exact h.of_eq rfl rfl rfl
  · exact h.of_eq rfl rfl rfl
  · refine causesSideOk_offerSupervisor false (CausesSideOk.raise ?_ (by decide) (by decide) (.inr (by decide)))
    exact h.of_eq rfl rfl rfl
  · exact h.of_eq rfl rfl rfl
  · refine causesSideOk_offerSupervisor true (CausesSideOk.raise (CausesSideOk.count ?_ 39) (by decide) (by decide)
      (.inr (by decide)))
    exact h.of_eq rfl rfl rfl
  · exact h.of_eq rfl rfl rfl

/-! ## Grants and the commands -/

section
variable {s : State}

/-- A recorder that stops has none of its causes pending (R64, R109, R150). -/
theorem recorderStops_raised (s : State) : (recorderStops s).alerts.raised &&& recorderCauses = 0 := by
  rw [recorderStops_eq]
  exact and_and_eq_zero_of_disjoint (by decide)

theorem causesBase_recorderStops (h : CausesBase s) : CausesBase (recorderStops s) := by
  rw [recorderStops_eq]
  exact ((causesBase_offerCounts 43 s.recorder.queue.length h).cleared (k := 0xFFF0) (by decide)).of_eq (fun _ => rfl)
    rfl rfl

theorem wrapClear_recorderStops (h : WrapClear s) : WrapClear (recorderStops s) := by
  have hcounted := wrapClear_offerCounts 43 s.recorder.queue.length h
  rw [recorderStops_eq]
  intro hbanks
  have hclear := (has_eq_false_iff _ _).1 (hcounted hbanks)
  rw [has_eq_false_iff]
  exact and_and_eq_zero _ hclear

/-- The courses of the recorder's part of an evaluation of G (R62, R64, R66). -/
theorem regrantRecorder_cases (s : State) :
    (s.units.recorder = .locked ∧ regrantRecorder s = { s with units := { s.units with recorder := .off } }) ∨
    regrantRecorder s = s ∨ regrantRecorder s = recorderStops { s with units := { s.units with recorder := .locked } } := by
  unfold regrantRecorder
  split_ifs with hlocked
  · exact .inl ⟨hlocked, rfl⟩
  · exact .inr (.inl rfl)
  · exact .inr (.inl rfl)
  · exact .inr (.inr rfl)

theorem causesBase_regrantRecorder (h : CausesBase s) (hclear : RecorderClear s) :
    CausesBase (regrantRecorder s) ∧ RecorderClear (regrantRecorder s) := by
  rcases regrantRecorder_cases s with ⟨hlocked, hto⟩ | hto | hto <;> rw [hto]
  · exact ⟨h.of_eq (fun b => by cases b <;> rfl) rfl rfl, fun _ => hclear (by rw [RecorderIdle, hlocked]; rfl)⟩
  · exact ⟨h, hclear⟩
  · exact ⟨causesBase_recorderStops (h.of_eq (fun b => by cases b <;> rfl) rfl rfl), fun _ => recorderStops_raised _⟩

/-- With all four banks idle COUNTER_WRAP leaves the pending set (R151). -/
theorem causesSideOk_clearWrapCause (h : CausesBase s) (hclear : RecorderClear s) : CausesSideOk (clearWrapCause s) := by
  rw [clearWrapCause_eq]
  unfold withoutIdleWrap
  split_ifs with hbanks
  · refine ⟨h.removed (by decide), fun hidle => and_and_eq_zero _ (hclear hidle), fun _ => ?_⟩
    rw [has_eq_false_iff]
    exact and_and_eq_zero_of_disjoint (by decide)
  · exact ⟨h, hclear, fun hx => absurd hx hbanks⟩

theorem idle_of_grantedTo {g : Bool} {u : UnitState} (h : (grantedTo g u).idle = true) :
    u.idle = true ∨ losesG g u = true := by
  cases g <;> cases u <;> first | exact .inl rfl | exact .inr rfl | exact absurd h Bool.false_ne_true

/-- An evaluation of G (R62 to R66, R151). -/
theorem causesSideOk_evaluateGrants (h : CausesSideOk s) : CausesSideOk (evaluateGrants s) := by
  unfold evaluateGrants
  dsimp only
  rw [regrantBanks_eq]
  have hbanks : CausesBase { s with
      units := { s.units with
        edge := grantedTo (effectiveGrant s 0) s.units.edge, dwell := grantedTo (effectiveGrant s 1) s.units.dwell
        link := grantedTo (effectiveGrant s 2) s.units.link, tally := grantedTo (effectiveGrant s 3) s.units.tally }
      counters := clearedBanks (fun b => losesG (effectiveGrant s b.index) (s.units.bank b)) s.counters } :=
    h.base.banks fun b hb => by cases b <;> exact idle_of_grantedTo hb
  obtain ⟨hbase, hclear⟩ := causesBase_regrantRecorder hbanks h.recorder
  split_ifs
  · exact causesSideOk_clearWrapCause (hbase.raised (by decide) (by decide))
      fun hidle => (or_and_eq_zero_iff _ _ _).2 ⟨hclear hidle, by decide⟩
  · exact causesSideOk_clearWrapCause hbase hclear

theorem causesSideOk_bankctl (control : Byte) (h : CausesSideOk s) : CausesSideOk (bankctlEffect control s) := by
  have hmoved (u : UnitState) (target : UnitState) (hu : (if u = .locked then .locked else target : UnitState).idle = true)
      (ht : target = .off ∨ target.idle = false) :
      u.idle = true ∨ ((u == .ready || u == .running) && target == .off) = true := by
    split_ifs at hu with hlocked
    · exact .inl (by rw [hlocked]; rfl)
    · rw [ht.resolve_right (by simp [hu])]
      cases u <;> first | exact .inl rfl | exact .inr rfl
  have htarget (b : Bank) : bankTargetOf control b = .off ∨ (bankTargetOf control b).idle = false := by
    unfold bankTargetOf
    split_ifs
    · exact .inl rfl
    · exact .inr rfl
    · exact .inr rfl
  have hcleared := causesSideOk_clearWrapCause (h.base.banks (u := { s.units with
      edge := if s.units.edge = .locked then .locked else bankTargetOf control .edge
      dwell := if s.units.dwell = .locked then .locked else bankTargetOf control .dwell
      link := if s.units.link = .locked then .locked else bankTargetOf control .link
      tally := if s.units.tally = .locked then .locked else bankTargetOf control .tally })
    (p := fun b => (s.units.bank b == .ready || s.units.bank b == .running) && bankTargetOf control b == .off)
    fun b hb => by cases b <;> exact hmoved _ _ hb (htarget _)) h.recorder
  rw [clearWrapCause_eq] at hcleared
  rw [bankctlEffect_eq]
  exact hcleared

theorem causesSideOk_recctl (target start : Byte) (h : CausesSideOk s) :
    CausesSideOk (recctlEffect target start s) := by
  rcases recctlEffect_cases target start s with hto | ⟨e, t, _, ht, _, _, hto⟩ | ⟨_, _, hto⟩ | ⟨_, hto⟩ | ⟨_, hto⟩ <;>
    rw [hto]
  · exact h
  · have hbusy : t.idle = false := by rcases ht with rfl | rfl <;> rfl
    refine (h.unit hbusy).of_eq ?_ ?_ ?_ <;> simp [recorderStarts]
  · exact (h.unit (x := .running) rfl).of_eq rfl rfl rfl
  · exact (h.unit (x := .ready) rfl).of_eq rfl rfl rfl
  · exact ⟨(causesBase_recorderStops h.base).of_eq (fun b => by cases b <;> rfl) rfl rfl,
      fun _ => recorderStops_raised s, fun hbanks => wrapClear_recorderStops h.wrap hbanks⟩

theorem and_one_eq (x : Half) : x &&& 1 = if x.getLsbD 0 then 1 else 0 := by
  refine BitVec.and_one_eq_setWidth_ofBool_getLsbD.trans ?_
  cases x.getLsbD 0 <;> rfl

theorem causesSideOk_alertack (mask : Half) (h : CausesSideOk s) : CausesSideOk (alertackEffect mask s) := by
  have hrecorder : RecorderClear { s with alerts := { s.alerts with raised := s.alerts.raised &&& ~~~mask } } :=
    fun hidle => and_and_eq_zero _ (h.recorder hidle)
  have hwrap : WrapClear { s with alerts := { s.alerts with raised := s.alerts.raised &&& ~~~mask } } := fun hbanks => by
    rw [has_eq_false_iff]
    exact and_and_eq_zero _ ((has_eq_false_iff _ _).1 (h.wrap hbanks))
  have hbit : (~~~mask).getLsbD 0 = !mask.getLsbD 0 := by
    rw [BitVec.getLsbD_not]
    rfl
  rw [alertackEffect_eq]
  cases hnamed : mask.getLsbD 0 with
  | true => exact ⟨h.base.cleared (by rw [and_one_eq, hbit, hnamed]; rfl), hrecorder, hwrap⟩
  | false => exact ⟨h.base.removed (by rw [and_one_eq, hbit, hnamed]; rfl), hrecorder, hwrap⟩

/-- CNTSET writes a counter of a Ready bank (R87). -/
theorem causesSideOk_cntset {counter : Byte} {value : Word} (hdone : answerTo (.cntset counter value) s = .done)
    (h : CausesSideOk s) : CausesSideOk (cntsetEffect counter value s) := by
  have hstate : ((if counterReady s counter.toNat then none else some .state) : Option Result).getD .done = .done :=
    stateRefusal_of_done hdone
  have hready : counterReady s counter.toNat = true := by
    by_contra hx
    simp [hx] at hstate
  unfold counterReady at hready
  unfold cntsetEffect
  split_ifs at hready ⊢ with hrange
  refine ⟨⟨fun k hk => ?_, h.base.causes, h.base.faultDetail⟩, h.recorder, h.wrap⟩
  obtain ⟨hvalue, hwrapped⟩ := h.base.idleBanks k hk
  have hne : counter.toNat ≠ k.val := by
    intro hx
    have hsame : (⟨counter.toNat, hrange⟩ : Fin 45) = k := Fin.ext hx
    rw [hsame] at hready
    dsimp only at hk
    rw [eq_of_beq hready] at hk
    exact absurd hk (by decide)
  refine ⟨?_, hwrapped⟩
  show (s.counters.value.set counter.toNat value hrange)[k.val] = 0
  rw [Vector.getElem_set_ne _ _ hne]
  exact hvalue

theorem causesSideOk_banksnap (selection : Byte) (h : CausesSideOk s) : CausesSideOk (banksnapEffect selection s) := by
  rw [banksnapEffect_eq]
  refine ⟨⟨fun k hk => ?_, h.base.causes, h.base.faultDetail⟩, h.recorder, h.wrap⟩
  obtain ⟨hvalue, hwrapped⟩ := h.base.idleBanks k hk
  dsimp only
  rw [wrapsWithout_value, wrapsWithout_wrapped, hwrapped]
  exact ⟨hvalue, rfl⟩

theorem causesSideOk_alertmask {mask : Half} (hdone : answerTo (.alertmask mask) s = .done) (h : CausesSideOk s) :
    CausesSideOk (alertmaskEffect mask s) := by
  have hmask : mask &&& 0xFE00 = 0 := eq_of_beq (operandsInRange_of_done hdone)
  exact ⟨⟨h.base.idleBanks, ⟨h.base.causes.1, hmask⟩, h.base.faultDetail⟩, h.recorder, h.wrap⟩

theorem causesSideOk_effect {c : Instr} (hc : (commandBytes c).isSome = true) (hdone : answerTo c s = .done)
    (hcursor : CursorOk s) (h : CausesSideOk s) : CausesSideOk (effectOf c s) := by
  cases c
  case grant g v x => exact causesSideOk_evaluateGrants (h.of_eq rfl rfl rfl)
  case bankctl control => exact causesSideOk_bankctl control h
  case banksnap selection => exact causesSideOk_banksnap selection h
  case cntset counter value => exact causesSideOk_cntset hdone h
  case recctl target start => exact causesSideOk_recctl target start h
  case alertack mask => exact causesSideOk_alertack mask h
  case alertmask mask => exact causesSideOk_alertmask hdone h
  case wdkick =>
    rw [effectOf_wdkick, wdkickEffect]
    refine CausesSideOk.count ?_ 38
    exact h.of_eq rfl rfl rfl
  case wdset => refine h.of_eq ?_ ?_ ?_ <;> simp [wdsetEffect_eq]
  case wrapcfg =>
    exact ⟨⟨h.base.idleBanks, h.base.causes, h.base.faultDetail⟩, h.recorder, h.wrap⟩
  case sealnow =>
    have hstate : ((if canSeal s then none else some .state) : Option Result).getD .done = .done :=
      stateRefusal_of_done hdone
    have hcan : canSeal s = true := by
      by_contra hx
      simp [hx] at hstate
    simp only [canSeal, Bool.and_eq_true] at hcan
    exact (busyCauses_writerRules.sealLeaf (.of_placed h hcursor hcan.1.1)).causes
  case mark cls tag =>
    have hstate : ((if recording s then none else some .state) : Option Result).getD .done = .done :=
      stateRefusal_of_done hdone
    have hrecording : recording s = true := by
      by_contra hx
      simp [hx] at hstate
    exact (busyCauses_writerRules.drain (busyCauses_writerRules.offer _
      (.of_running h ((recording_iff s).1 hrecording)))).causes
  case release leaf => refine h.of_eq ?_ ?_ ?_ <;> simp
  case commit | lock | unlock | hold | standby | tbset | incfg | reccfg | notemark | winset | wdoff | nop | sysreset =>
    refine h.of_eq ?_ ?_ ?_ <;> simp [commitEffect, holdEffect, tbsetEffect, reccfgEffect, notemarkEffect]
  all_goals exact absurd hc Bool.false_ne_true

end

end Sys2Proof.Machine
end

section
-- One declaration at a time: in parallel the threads of the whole text take more memory than the check allows.
set_option Elab.async false

/-! SUPPORT. The cursor, the leaf being written, the queue and the loss tally stay as chapter 7 promises them (O56): what
each operation of the recorder's engine does to them. -/

namespace Sys2Proof.Machine

open Sys2Proof.Safety

/-! ## The promises -/

/-- `t` agrees with `s` in the parts that the recorder's promises speak of, capture memory and the sampling apart. -/
structure SameRecorder (s t : State) : Prop where
  directory : t.directory = s.directory := by rfl
  life : t.life = s.life := by rfl
  unit : t.units.recorder = s.units.recorder := by rfl
  cursor : t.recorder.cursor = s.recorder.cursor := by rfl
  queue : t.recorder.queue = s.recorder.queue := by rfl
  lossCount : t.recorder.lossCount = s.recorder.lossCount := by rfl
  lossTime : t.recorder.lossTime = s.recorder.lossTime := by rfl
  config : t.recorder.config = s.recorder.config := by rfl

/-- What stands of the recorder whatever the bytes of the cursor's leaf are. -/
structure WriterBase (s : State) : Prop where
  memory : s.capture.wf 65536
  cursor : CursorOk s
  run : RunOk s
  queue : QueueOk s
  loss : LossOk s
  config : ConfigOk s
  quiet : QuietBeforeOpen s

/-- The promises of O56, the sampling apart. -/
structure WriterOk (s : State) : Prop where
  base : WriterBase s
  leaf : LeafOk s

theorem WriterBase.of_same {s t : State} (h : WriterBase s) (hmemory : t.capture.wf 65536) (ht : SameRecorder s t) :
    WriterBase t := by
  obtain ⟨-, hcursor, hrun, hqueue, hloss, hconfig, hquiet⟩ := h
  refine ⟨hmemory, ?_, ?_, ?_, ?_, ?_, ?_⟩
  · rw [CursorOk, RecorderIdle, ht.unit, ht.cursor]; exact hcursor
  · rw [RunOk, ht.cursor, ht.directory]; exact hrun
  · rw [QueueOk, ht.cursor, ht.queue]; exact hqueue
  · rw [LossOk, RecorderIdle, ht.unit, ht.lossCount, ht.lossTime]; exact hloss
  · rw [ConfigOk, ht.config]; exact hconfig
  · rw [QuietBeforeOpen, ht.life, ht.unit, ht.cursor]; exact hquiet

theorem leafOk_of_capture {s t : State} (h : LeafOk s) (hcapture : t.capture = s.capture)
    (hcursor : t.recorder.cursor = s.recorder.cursor) : LeafOk t := by
  unfold LeafOk isSealed leafByte
  rw [hcapture, hcursor]
  exact h

theorem WriterOk.of_same {s t : State} (h : WriterOk s) (hcapture : t.capture = s.capture) (ht : SameRecorder s t) :
    WriterOk t :=
  ⟨h.base.of_same (by rw [hcapture]; exact h.base.memory) ht, leafOk_of_capture h.leaf hcapture ht.cursor⟩

/-- A placed cursor means a recorder that is not idle (section 7.1). -/
theorem WriterBase.not_idle {s : State} (h : WriterBase s) (hplaced : s.recorder.cursor.placed = true) :
    ¬RecorderIdle s := fun hidle => absurd (hplaced.symm.trans (h.cursor.2.1 hidle)) nofun

theorem WriterOk.count {s : State} (h : WriterOk s) (c : Fin 45) : WriterOk (offerCount c s) :=
  h.of_same (by simp) (by constructor <;> simp)

theorem WriterBase.count {s : State} (h : WriterBase s) (c : Fin 45) : WriterBase (offerCount c s) :=
  h.of_same (by simpa using h.memory) (by constructor <;> simp)

/-- Another queue and another loss tally, each in its bounds. -/
theorem WriterOk.withQueue {s : State} (h : WriterOk s) {q : List Rec} {count : Half} {time : Option Word}
    (hlength : q.length ≤ 8) (hplaced : s.recorder.cursor.placed = false → q = [])
    (hloss : count = 0 ↔ time = none) (hidle : RecorderIdle s → count = 0) :
    WriterOk { s with recorder := { s.recorder with queue := q, lossCount := count, lossTime := time } } :=
  ⟨⟨h.base.memory, h.base.cursor, h.base.run, ⟨hlength, hplaced⟩, ⟨hloss, hidle⟩, h.base.config, h.base.quiet⟩, h.leaf⟩

/-! ## Offers -/

theorem satInc_ne_zero (x : Half) : satInc x ≠ 0 := by
  rw [satInc_eq]
  split_ifs with hmax
  · decide
  · intro hzero
    apply hmax
    rw [show BitVec.allOnes 16 = (65535 : Half) from rfl]
    bv_omega

theorem WriterOk.countLost {s : State} (h : WriterOk s) : WriterOk (countLost s) := by
  refine h.of_same ?_ ?_
  · simp [Machine.countLost]
  · constructor <;> simp [Machine.countLost]

/-- A Running recorder's offer (R112). -/
theorem WriterOk.offer {s : State} (h : WriterOk s) (hrunning : s.units.recorder = .running) (r : Rec) :
    WriterOk (offer r s) := by
  have hplaced (q : List Rec) : s.recorder.cursor.placed = false → q = [] :=
    fun hx => absurd (hx.symm.trans (h.base.cursor.1 hrunning)) nofun
  have hbusy : ¬RecorderIdle s := by simp [RecorderIdle, hrunning, UnitState.idle]
  obtain ⟨hlength, -⟩ := h.base.queue
  obtain ⟨hloss, -⟩ := h.base.loss
  have hcleared (q : List Rec) (hq : q.length ≤ 8) :
      WriterOk { s with recorder := { s.recorder with queue := q, lossCount := 0, lossTime := none } } :=
    h.withQueue hq (hplaced q) (iff_of_true rfl rfl) fun _ => rfl
  unfold Machine.offer
  dsimp only
  unfold Config.queueDepth at *
  split_ifs with hfull hnone hnone hlast
  · refine WriterOk.countLost (h.withQueue hlength (hplaced _) (iff_of_false (satInc_ne_zero _) nofun)
      fun hx => absurd hx hbusy)
  · refine WriterOk.countLost (h.withQueue hlength (hplaced _)
      (iff_of_false (satInc_ne_zero _) fun hx => hnone (hloss.2 hx)) fun hx => absurd hx hbusy)
  · exact h.withQueue (by rw [List.length_append, List.length_singleton]; omega) (hplaced _) hloss
      fun hx => absurd hx hbusy
  · refine WriterOk.countLost (hcleared (s.recorder.queue ++ [lossRecord (satInc s.recorder.lossCount) s]) ?_)
    rw [List.length_append, List.length_singleton]
    omega
  · refine hcleared (s.recorder.queue ++ [lossRecord s.recorder.lossCount s] ++ [r]) ?_
    simp only [List.length_append, List.length_singleton]
    omega

theorem WriterOk.offerSnapshot {s : State} (h : WriterOk s) (hrunning : s.units.recorder = .running) (deferred : Bool)
    (missed : BitVec 4) : WriterOk (offerSnapshot deferred missed s) :=
  (h.offer hrunning _).of_same rfl {}

/-! ## The end of a walk, and arrivals -/

/-- The run that a cursor may stand in (R103, R124). -/
structure InRun (d : Memory) (entry : BitVec 6) (leaf : Byte) : Prop where
  store : entryKind d entry = .store
  range : runInRange d entry = true
  first : (entryByte d entry 1).toNat ≤ leaf.toNat
  last : leaf.toNat < runEnd d entry

theorem inRun_first {d : Memory} {entry : BitVec 6} (hstore : entryKind d entry = .store)
    (hrange : runInRange d entry = true) : InRun d entry (entryByte d entry 1) :=
  ⟨hstore, hrange, Nat.le_refl _, by unfold runEnd; omega⟩

/-- An arrival in a run, of a recorder that is not idle (R123, R124). -/
theorem writerOk_arrive {s : State} {entry : BitVec 6} {leaf : Byte} (hmemory : s.capture.wf 65536)
    (hbusy : ¬RecorderIdle s) (hrun : InRun s.directory entry leaf)
    (hqueue : s.recorder.queue.length ≤ Config.queueDepth)
    (hloss : s.recorder.lossCount = 0 ↔ s.recorder.lossTime = none) (hconfig : ConfigOk s)
    (hlife : ¬(s.life = .init ∨ s.life = .unpowered)) : WriterOk (arrive entry leaf s) := by
  have hbase (m : Memory) (hm : m.wf 65536) (blocked : Bool) (n : Nat) : WriterBase { s with
      capture := m
      recorder := { s.recorder with
        cursor := { entry := entry, leaf := leaf, offset := 0, placed := true, blocked := blocked }
        records := n } } :=
    ⟨hm, ⟨fun _ => rfl, fun hx => absurd hx hbusy, fun _ => rfl, nofun, Nat.zero_le _, rfl⟩,
      fun _ => ⟨hrun.store, hrun.range, hrun.first, hrun.last⟩, ⟨hqueue, nofun⟩, ⟨hloss, fun hx => absurd hx hbusy⟩,
      hconfig, fun hx => absurd hx hlife⟩
  cases hsealed : isSealed s leaf with
  | true =>
    rw [arrive_of_sealed hsealed]
    exact ⟨hbase _ hmemory true _, fun _ => ⟨hsealed.symm, nofun⟩⟩
  | false =>
    rw [arrive_of_open hsealed]
    generalize ((leafByte s leaf 240).getLsbD 1 || (entryByte s.directory entry 3).getLsbD 0) = notify
    have hwf := wf_leafOpened hmemory leaf notify
    have hentered {t : State} (ht : t.capture = (leafOpened leaf notify s).capture) := entered_of_capture_eq hmemory ht
    generalize (leafOpened leaf notify s).capture = opened at hwf hentered
    refine ⟨hbase opened hwf false 0, fun _ => ?_⟩
    obtain ⟨hmarker, hseal, -⟩ := hentered (t := { s with
      capture := opened
      recorder := { s.recorder with
        cursor := { entry := entry, leaf := leaf, offset := 0, placed := true, blocked := false }
        records := 0 } }) rfl
    refine ⟨((congrArg (fun x => BitVec.getLsbD x 0) (hseal 0)).trans ?_).symm, fun _ _ => hmarker⟩
    dsimp only
    split_ifs <;> rfl

/-- The walk has ended, with the queue discarded (R125, R126). -/
theorem writerOk_ended {s t : State} {entry : BitVec 6} (h : WriterBase s)
    (hplaced : s.recorder.cursor.placed = true) (hcapture : t.capture = s.capture)
    (ht : SameRecorder { walkEnded entry s with recorder := { (walkEnded entry s).recorder with queue := [] } } t) :
    WriterOk t := by
  have hbusy := h.not_idle hplaced
  have hended : WriterOk { walkEnded entry s with recorder := { (walkEnded entry s).recorder with queue := [] } } := by
    have hunit : ¬((if s.units.recorder = .running then .ready else s.units.recorder) = .running) := by
      split_ifs with hrunning
      · nofun
      · exact hrunning
    have hstays : ¬(if s.units.recorder = .running then .ready else s.units.recorder).idle = true := by
      split_ifs
      · nofun
      · exact hbusy
    refine ⟨⟨h.memory, ⟨fun hx => absurd hx hunit, fun _ => rfl, nofun, fun _ => rfl, Nat.zero_le _, rfl⟩, nofun,
      ⟨Nat.zero_le _, fun _ => rfl⟩, ⟨h.loss.1, fun hx => absurd hx hstays⟩, h.config, fun hlife => ?_⟩, nofun⟩
    exact absurd (hplaced.symm.trans (h.quiet hlife).2) nofun
  exact hended.of_same hcapture ht

theorem writerOk_stopAt {s : State} (h : WriterBase s) (hplaced : s.recorder.cursor.placed = true) (entry : BitVec 6) :
    WriterOk (stopAt entry s) := by
  refine writerOk_ended (entry := entry) h hplaced (by simp) ?_
  unfold stopAt discardQueue
  rw [endWalk_eq]
  constructor <;> simp

theorem writerOk_faultAt {s : State} (h : WriterBase s) (hplaced : s.recorder.cursor.placed = true) (kind : FaultKind)
    (entry : BitVec 6) : WriterOk (faultAt kind entry s) := by
  refine writerOk_ended (entry := entry) h hplaced (by simp) ?_
  unfold faultAt discardQueue
  rw [endWalk_eq, raise_recordFault_eq]
  constructor <;> simp

/-! ## Sealing -/

/-- The advance places the cursor in a run again, or unplaces it (R124). -/
theorem writerOk_advance {s : State} (h : WriterBase s) (hplaced : s.recorder.cursor.placed = true) :
    WriterOk (advance s) := by
  have hlife (hx : s.life = .init ∨ s.life = .unpowered) : False := by
    simpa [hplaced] using (h.quiet hx).2
  have harrive {entry : BitVec 6} {leaf : Byte} (hrun : InRun s.directory entry leaf) :
      WriterOk (arrive entry leaf s) :=
    writerOk_arrive h.memory (h.not_idle hplaced) hrun h.queue.1 h.loss.1 h.config hlife
  obtain ⟨hstore, hrange, hfirst, -⟩ := h.run hplaced
  rcases advance_cases s with ⟨entry, leaf, hto, hrun⟩ | ⟨entry, hto⟩ | ⟨kind, entry, -, hto⟩ <;> rw [hto]
  · rcases hrun with ⟨rfl, rfl, hnext⟩ | ⟨hkind, hinside, rfl⟩
    · have hend : runEnd s.directory s.recorder.cursor.entry ≤ 256 := of_decide_eq_true hrange
      have hleaf : (s.recorder.cursor.leaf + 1).toNat = s.recorder.cursor.leaf.toNat + 1 := by bv_omega
      exact harrive ⟨hstore, hrange, by omega, by omega⟩
    · exact harrive (inRun_first hkind hinside)
  · exact writerOk_stopAt h hplaced entry
  · exact writerOk_faultAt h hplaced kind entry

theorem writerBase_writeSeal {s : State} (h : WriterBase s) : WriterBase (writeSeal s) := by
  refine h.of_same (wf_writeSeal h.memory) ?_
  constructor <;> simp [writeSeal_eq, sealWritten]

theorem writerOk_sealLeaf {s : State} (h : WriterBase s) (hplaced : s.recorder.cursor.placed = true) :
    WriterOk (sealLeaf s) :=
  writerOk_advance (writerBase_writeSeal h) (by rw [writeSeal_cursor]; exact hplaced)

/-! ## Records placed and dropped -/

/-- A drop leaves the leaf sealed and the writer blocked on it (R121). -/
theorem writerOk_dropRecord {s : State} (h : WriterOk s) (hblocked : s.recorder.cursor.blocked = true) :
    WriterOk (dropRecord s) := by
  have hplaced := h.base.cursor.2.2.1 hblocked
  have hsame : SameRecorder s (dropRecord s) := by constructor <;> simp [dropRecord_eq]
  obtain ⟨-, ⟨hseal, -⟩, -⟩ := drops_dropRecord h.base.memory
  refine ⟨h.base.of_same (wf_dropRecord h.base.memory) hsame, ?_⟩
  unfold LeafOk
  rw [hsame.cursor]
  have hbit : isSealed (dropRecord s) s.recorder.cursor.leaf = isSealed s s.recorder.cursor.leaf :=
    congrArg (fun x => BitVec.getLsbD x 0) (hseal 0)
  exact fun _ => ⟨hbit.symm ▸ (h.leaf hplaced).1, fun hopen => absurd (hblocked.symm.trans hopen) nofun⟩

/-- A record that fits is placed, with the end marker behind it (R93, R119). -/
theorem writerOk_placeRecord {s : State} {r : Rec} (h : WriterOk s) (hplaced : s.recorder.cursor.placed = true)
    (hfits : s.recorder.cursor.offset + r.bytes.length ≤ 240) :
    WriterOk (placeRecord r s) := by
  have hmemory := wf_placeRecord h.base.memory hfits
  obtain ⟨-, ⟨-, hmarker, hothers⟩, -⟩ := places_placeRecord h.base.memory hfits
  have hcursor : (placeRecord r s).recorder.cursor =
      { s.recorder.cursor with offset := s.recorder.cursor.offset + r.bytes.length } := by
    rw [placeRecord_eq]
    simp [Rec.length]
  have hsame : SameRecorder { s with recorder := { s.recorder with
      cursor := { s.recorder.cursor with offset := s.recorder.cursor.offset + r.bytes.length } } } (placeRecord r s) := by
    constructor <;> simp [placeRecord_eq, Rec.length]
  obtain ⟨hrunning, hidle, hblocks, -, -, hmod⟩ := h.base.cursor
  obtain ⟨hlength, -⟩ := length_bytes r
  have hbase : WriterBase { s with recorder := { s.recorder with
      cursor := { s.recorder.cursor with offset := s.recorder.cursor.offset + r.bytes.length } } } := by
    refine ⟨h.base.memory, ⟨hrunning, hidle, hblocks, fun hx => absurd (hplaced.symm.trans hx) nofun, hfits, ?_⟩,
      h.base.run, h.base.queue, h.base.loss, h.base.config, h.base.quiet⟩
    show (s.recorder.cursor.offset + r.bytes.length) % 4 = 0
    omega
  refine ⟨hbase.of_same hmemory hsame, ?_⟩
  unfold LeafOk
  rw [hcursor]
  have hbyte : leafByte (placeRecord r s) s.recorder.cursor.leaf 240 = leafByte s s.recorder.cursor.leaf 240 :=
    hothers _ (.inr (.inr rfl))
  have hbit : isSealed (placeRecord r s) s.recorder.cursor.leaf = isSealed s s.recorder.cursor.leaf :=
    congrArg (fun x => BitVec.getLsbD x 0) hbyte
  exact fun _ => ⟨hbit.symm ▸ (h.leaf hplaced).1, fun _ hroom => hmarker hroom⟩

/-! ## The drain -/

/-- A record in hand, of a writer whose cursor is placed (R118 to R120). -/
theorem writerOk_handleRecord (r : Rec) {s : State} (h : WriterOk s) (hplaced : s.recorder.cursor.placed = true) :
    WriterOk (handleRecord r s) := by
  have hsealed := writerOk_sealLeaf h.base hplaced
  unfold handleRecord
  dsimp only
  rw [if_neg (by simp [hplaced])]
  split_ifs with hblocked hfits hended hoccupied
  · exact writerOk_dropRecord h hblocked
  · exact writerOk_placeRecord h hplaced ((fits_iff r s).1 hfits)
  · exact hsealed.count 43
  · exact writerOk_dropRecord hsealed hoccupied
  · exact writerOk_placeRecord hsealed (by simpa using hended) (fits_sealLeaf r)

theorem writerOk_drainList (l : List Rec) {s : State} (h : WriterOk s) (hlength : l.length ≤ 8)
    (hplaced : s.recorder.cursor.placed = false → l = []) : WriterOk (drainList l s) := by
  induction l generalizing s with
  | nil => exact h.withQueue (Nat.zero_le _) (fun _ => rfl) h.base.loss.1 h.base.loss.2
  | cons r rest ih =>
    have hstands : s.recorder.cursor.placed = true := by
      by_contra hx
      exact absurd (hplaced (eq_false_of_ne_true hx)) (List.cons_ne_nil _ _)
    rw [List.length_cons] at hlength
    have htaken : WriterOk { s with recorder := { s.recorder with queue := rest } } :=
      h.withQueue (by omega) (fun hx => absurd (hstands.symm.trans hx) nofun) h.base.loss.1 h.base.loss.2
    have hhandled := writerOk_handleRecord r htaken hstands
    rw [drainList]
    dsimp only
    split_ifs with hgoes
    · exact ih hhandled (by omega) fun hx => absurd (hgoes.symm.trans hx) nofun
    · exact hhandled

theorem WriterOk.drain {s : State} (h : WriterOk s) : WriterOk (drain s) :=
  writerOk_drainList _ h h.base.queue.1 h.base.queue.2

end Sys2Proof.Machine
end

section
-- One declaration at a time: in parallel the threads of the whole text take more memory than the check allows.
set_option Elab.async false

/-! SUPPORT. The recorder's promises and the sampling over the rows that are not the engine's own: commands, grants, the
end of a hold, windows and resets (O56). -/

namespace Sys2Proof.Machine

open Sys2Proof.Safety

/-- The promises of O56 together. -/
structure RecorderOk (s : State) : Prop where
  writer : WriterOk s
  sampling : SamplingOk s

/-- `t` agrees with `s` in every part that the recorder's promises speak of, capture memory apart. -/
structure SameSampling (s t : State) : Prop extends SameRecorder s t where
  countdown : t.recorder.countdown = s.recorder.countdown := by rfl
  deferred : t.recorder.deferred = s.recorder.deferred := by rfl
  missed : t.recorder.missed = s.recorder.missed := by rfl
  active : t.hold.active = s.hold.active := by rfl

theorem RecorderOk.of_same {s t : State} (h : RecorderOk s) (hcapture : t.capture = s.capture) (ht : SameSampling s t) :
    RecorderOk t :=
  ⟨h.writer.of_same hcapture ht.toSameRecorder, samplingOk_of_eq h.sampling ht.countdown ht.deferred ht.missed ht.unit
    ht.active⟩

/-- An idle recorder's promises do not depend on the bytes of the stores. -/
theorem RecorderOk.rewritten {s : State} (h : RecorderOk s) (hplaced : s.recorder.cursor.placed = false)
    {c d : Memory} (hc : c.wf 65536) : RecorderOk { s with capture := c, directory := d } := by
  obtain ⟨⟨⟨-, hcursor, -, hqueue, hloss, hconfig, hquiet⟩, -⟩, hsampling⟩ := h
  exact ⟨⟨⟨hc, hcursor, fun hx => absurd (hplaced.symm.trans hx) nofun, hqueue, hloss, hconfig, hquiet⟩,
    fun hx => absurd (hplaced.symm.trans hx) nofun⟩, hsampling⟩

/-- A stopped recorder (R64, R109). -/
theorem recorderOk_stopped {s t : State} (h : RecorderOk s) (hcapture : t.capture = s.capture)
    (hrecorder : t.recorder = recorderOff s.recorder) (hidle : t.units.recorder.idle = true)
    (hlife : t.life = .init ∨ t.life = .unpowered → t.units.recorder = .locked) : RecorderOk t := by
  have hbusy : t.units.recorder ≠ .running := fun hx => by simp [hx, UnitState.idle] at hidle
  have hcursor : t.recorder.cursor = { s.recorder.cursor with placed := false, blocked := false, offset := 0 } := by
    rw [hrecorder]; rfl
  have hunplaced : t.recorder.cursor.placed = false := by rw [hcursor]
  have hqueue : t.recorder.queue = [] := by rw [hrecorder]; rfl
  have hloss : t.recorder.lossCount = 0 ∧ t.recorder.lossTime = none := by rw [hrecorder]; exact ⟨rfl, rfl⟩
  have hsampling : t.recorder.countdown = none ∧ t.recorder.deferred = false ∧ t.recorder.missed = 0 := by
    rw [hrecorder]; exact ⟨rfl, rfl, rfl⟩
  refine ⟨⟨⟨by rw [hcapture]; exact h.writer.base.memory, ?_, fun hx => absurd (hunplaced.symm.trans hx) nofun, ?_, ?_,
    ?_, fun hx => ⟨hlife hx, hunplaced⟩⟩, fun hx => absurd (hunplaced.symm.trans hx) nofun⟩, ?_⟩
  · rw [CursorOk, hcursor]
    exact ⟨fun hx => absurd hx hbusy, fun _ => rfl, nofun, fun _ => rfl, Nat.zero_le _, rfl⟩
  · rw [QueueOk, hqueue]
    exact ⟨Nat.zero_le _, fun _ => rfl⟩
  · exact ⟨iff_of_true hloss.1 hloss.2, fun _ => hloss.1⟩
  · rw [ConfigOk, show t.recorder.config = s.recorder.config by rw [hrecorder]; rfl]
    exact h.writer.base.config
  · rw [SamplingOk, hsampling.1, hsampling.2.1, hsampling.2.2]
    exact ⟨iff_of_false nofun hbusy, nofun, nofun, fun _ => rfl, fun _ => rfl⟩

/-- Every quantity of the recorder at its reset value but the leaf sequence (section 11.5). -/
theorem recorderOk_atReset {t : State} (hmemory : t.capture.wf 65536) (hunits : t.units.recorder = .locked)
    (hrecorder : ∃ n, t.recorder = { State.reset.recorder with leafSeq := n }) : RecorderOk t := by
  obtain ⟨n, hrecorder⟩ := hrecorder
  have hcursor : t.recorder.cursor = State.reset.recorder.cursor := by rw [hrecorder]
  have hqueue : t.recorder.queue = [] := by rw [hrecorder]; rfl
  have hloss : t.recorder.lossCount = 0 ∧ t.recorder.lossTime = none := by rw [hrecorder]; exact ⟨rfl, rfl⟩
  have hsampling : t.recorder.countdown = none ∧ t.recorder.deferred = false ∧ t.recorder.missed = 0 := by
    rw [hrecorder]; exact ⟨rfl, rfl, rfl⟩
  have hconfig : t.recorder.config = State.reset.recorder.config := by rw [hrecorder]
  have hunplaced : t.recorder.cursor.placed = false := by rw [hcursor]; rfl
  refine ⟨⟨⟨hmemory, ?_, fun hx => absurd (hunplaced.symm.trans hx) nofun, ?_, ?_, ?_, fun _ => ⟨hunits, hunplaced⟩⟩,
    fun hx => absurd (hunplaced.symm.trans hx) nofun⟩, ?_⟩
  · rw [CursorOk, RecorderIdle, hcursor, hunits]
    decide
  · rw [QueueOk, hqueue]
    exact ⟨Nat.zero_le _, fun _ => rfl⟩
  · exact ⟨iff_of_true hloss.1 hloss.2, fun _ => hloss.1⟩
  · rw [ConfigOk, hconfig]
    decide
  · rw [SamplingOk, hsampling.1, hsampling.2.1, hsampling.2.2, hunits]
    exact ⟨iff_of_false nofun nofun, nofun, nofun, fun _ => rfl, fun _ => rfl⟩

/-! ## Steps of a tick, and the end of a hold -/

theorem RecorderOk.offer {s : State} (h : RecorderOk s) (hrunning : s.units.recorder = .running) (r : Rec) :
    RecorderOk (offer r s) :=
  ⟨h.writer.offer hrunning r, samplingOk_writerRules.offer r h.sampling⟩

theorem RecorderOk.drain {s : State} (h : RecorderOk s) : RecorderOk (drain s) :=
  ⟨h.writer.drain, samplingOk_writerRules.drain h.sampling⟩

theorem RecorderOk.count {s : State} (h : RecorderOk s) (c : Fin 45) : RecorderOk (offerCount c s) :=
  h.of_same (by simp) ⟨by constructor <;> simp, by simp, by simp, by simp, by simp⟩

theorem recorderOk_offerSupervisor (fired : Bool) {s : State} (h : RecorderOk s) :
    RecorderOk (offerSupervisor fired s) := by
  unfold offerSupervisor
  split_ifs with hoffers
  · simp only [Bool.and_eq_true] at hoffers
    exact h.offer ((recording_iff s).1 hoffers.1) _
  · exact h

theorem recorderOk_supervisorStep {s : State} (h : RecorderOk s) : RecorderOk (supervisorStep s) := by
  unfold supervisorStep pulseStep
  dsimp only
  split_ifs
  · exact h
  · exact h.of_same rfl {}
  · exact h.of_same rfl {}
  · exact recorderOk_offerSupervisor false (h.of_same rfl {})
  · exact h.of_same rfl {}
  · unfold fireHost
    refine recorderOk_offerSupervisor true (RecorderOk.of_same (RecorderOk.count ?_ 39) rfl {})
    exact h.of_same rfl {}
  · exact h.of_same rfl {}

theorem writerOk_sampleStep {s : State} (h : WriterOk s) : WriterOk (sampleStep s) := by
  unfold sampleStep
  by_cases hrunning : recording s = true
  swap
  · rw [if_neg hrunning]
    exact h
  have hbusy := (recording_iff s).1 hrunning
  rw [if_pos hrunning]
  cases s.recorder.countdown with
  | none => exact h
  | some n =>
    dsimp only
    split_ifs
    · exact h.of_same rfl {}
    · unfold deferSample
      split_ifs <;> exact h.of_same rfl {}
    · refine WriterOk.offerSnapshot ?_ ?_ false 0
      · exact h.of_same rfl {}
      · exact hbusy
    · exact h.of_same rfl {}

theorem writerOk_endHold {s : State} (h : WriterOk s) : WriterOk (endHold s) := by
  unfold endHold settleDeferral
  dsimp only
  split_ifs with _ hrunning
  · refine WriterOk.of_same (WriterOk.offerSnapshot ?_ ((recording_iff _).1 hrunning) true _) rfl {}
    exact h.of_same rfl {}
  · exact h.of_same rfl {}
  · exact h.of_same rfl {}

/-! ## Grants -/

/-- The recorder's part of an evaluation of G (R62, R64, R66), in a life-cycle state in which one can come about. -/
theorem recorderOk_regrantRecorder {s : State} (hup : linkUp s = true) (h : RecorderOk s) :
    RecorderOk (regrantRecorder s) := by
  have hlife : ¬(s.life = .init ∨ s.life = .unpowered) := by
    rintro (hx | hx) <;> simp [linkUp, hx] at hup
  rcases regrantRecorder_cases s with ⟨hlocked, hto⟩ | hto | hto <;> rw [hto]
  · obtain ⟨⟨⟨hmemory, hcursor, hrun, hqueue, hloss, hconfig, -⟩, hleaf⟩, hcount, hzero, hhold, hmissed, hidle⟩ := h
    have hwas : RecorderIdle s := by rw [RecorderIdle, hlocked]; rfl
    exact ⟨⟨⟨hmemory, ⟨nofun, fun _ => hcursor.2.1 hwas, hcursor.2.2⟩, hrun, hqueue, ⟨hloss.1, fun _ => hloss.2 hwas⟩,
      hconfig, fun hx => absurd hx hlife⟩, hleaf⟩,
      ⟨hcount.trans (iff_of_false (by simp [hlocked]) nofun), hzero, hhold, hmissed, fun _ => hidle hwas⟩⟩
  · exact h
  · exact recorderOk_stopped h (by simp) (by rw [recorderStops_eq]) (by simp [UnitState.idle]) fun _ => by simp

theorem recorderOk_evaluateGrants {s : State} (hup : linkUp s = true) (h : RecorderOk s) :
    RecorderOk (evaluateGrants s) := by
  unfold evaluateGrants
  dsimp only
  rw [regrantBanks_eq, clearWrapCause_eq]
  have hregranted : RecorderOk (regrantRecorder { s with
      units := { s.units with
        edge := grantedTo (effectiveGrant s 0) s.units.edge, dwell := grantedTo (effectiveGrant s 1) s.units.dwell
        link := grantedTo (effectiveGrant s 2) s.units.link, tally := grantedTo (effectiveGrant s 3) s.units.tally }
      counters := clearedBanks (fun b => losesG (effectiveGrant s b.index) (s.units.bank b)) s.counters }) :=
    recorderOk_regrantRecorder hup (h.of_same rfl {})
  split_ifs <;> exact hregranted.of_same rfl {}

/-! ## The commands of the recorder -/

/-- The units do not bear on an arrival. -/
theorem arrive_withUnits (entry : BitVec 6) (leaf : Byte) (u : Units) (s : State) :
    arrive entry leaf { s with units := u } = { arrive entry leaf s with units := u } := by
  cases hsealed : isSealed s leaf with
  | true =>
    have hsame : isSealed { s with units := u } leaf = true := hsealed
    rw [arrive_of_sealed hsealed, arrive_of_sealed hsame]
  | false =>
    have hsame : isSealed { s with units := u } leaf = false := hsealed
    rw [arrive_of_open hsealed, arrive_of_open hsame]
    simp only [leafOpened, writeLeaf, leafByte]

/-- A start entry stands for a STORE in range (R106). -/
theorem inRun_of_startEntry {start : Byte} {s : State} {e : BitVec 6} (h : startEntry start s = some e) :
    InRun s.directory e (entryByte s.directory e 1) := by
  unfold startEntry at h
  split_ifs at h
  cases hresolved : resolveEntry s.directory (start.setWidth 6) with
  | arrive i =>
    obtain ⟨hstore, hrange, -⟩ := arrive_of_resolveEntry hresolved
    rw [hresolved] at h
    obtain rfl := Option.some.inj h
    exact inRun_first hstore hrange
  | stop => rw [hresolved] at h; exact absurd h nofun
  | fault kind => rw [hresolved] at h; exact absurd h nofun

/-- The recorder starts at a resolved entry (R107). -/
theorem recorderOk_starts {s : State} {e : BitVec 6} {target : UnitState} (hup : linkUp s = true)
    (hoff : s.units.recorder = .off) (htarget : target = .ready ∨ target = .running)
    (hrun : InRun s.directory e (entryByte s.directory e 1)) (h : RecorderOk s) :
    RecorderOk (recorderStarts e target s) := by
  have hidle : RecorderIdle s := by rw [RecorderIdle, hoff]; rfl
  have hlife : ¬(s.life = .init ∨ s.life = .unpowered) := by
    rintro (hx | hx) <;> simp [linkUp, hx] at hup
  have hbusy : ¬target.idle = true := by rcases htarget with rfl | rfl <;> nofun
  obtain ⟨⟨hmemory, hcursor, -, hqueue, hloss, hconfig, -⟩, -⟩ := h.writer
  obtain ⟨-, -, -, hmissed, hdeferred⟩ := h.sampling
  have harrived : WriterOk (arrive e (entryByte s.directory e 1)
      { s with units := { s.units with recorder := target } }) :=
    writerOk_arrive hmemory hbusy hrun hqueue.1 hloss.1 hconfig hlife
  rw [arrive_withUnits] at harrived
  have hrest : (arrive e (entryByte s.directory e 1) s).recorder.deferred = false ∧
      (arrive e (entryByte s.directory e 1) s).recorder.missed = 0 := by
    simp only [arrive_recorder_rest]
    exact ⟨hdeferred hidle, hmissed (hdeferred hidle)⟩
  unfold recorderStarts
  refine ⟨harrived.of_same rfl {}, ?_, ?_, ?_, fun _ => hrest.2, fun _ => hrest.1⟩
  · rcases htarget with rfl | rfl
    · exact ⟨nofun, nofun⟩
    · exact ⟨fun _ => rfl, fun _ => rfl⟩
  · have hinterval : (arrive e (entryByte s.directory e 1) s).recorder.config.interval ≠ 0 := by
      simp only [arrive_recorder_rest]
      exact hconfig.1
    dsimp only
    split_ifs
    · exact fun hx => hinterval (Option.some.inj hx)
    · nofun
  · exact fun hx => absurd (hx.symm.trans hrest.1) nofun

theorem recorderOk_recctl {target start : Byte} {s : State} (hup : linkUp s = true)
    (hdone : answerTo (.recctl target start) s = .done) (h : RecorderOk s) :
    RecorderOk (recctlEffect target start s) := by
  have hlife : ¬(s.life = .init ∨ s.life = .unpowered) := by
    rintro (hx | hx) <;> simp [linkUp, hx] at hup
  have hstate : (recctlStateFail target s).getD .done = .done := stateRefusal_of_done hdone
  rcases recctlEffect_cases target start s with hto | ⟨e, t, hoff, ht, -, hstart, hto⟩ | ⟨hready, htarget, hto⟩ |
    ⟨hrunning, hto⟩ | ⟨-, hto⟩ <;> rw [hto]
  · exact h
  · exact recorderOk_starts hup hoff ht (inRun_of_startEntry hstart) h
  · have hplaced : s.recorder.cursor.placed = true := by
      by_contra hx
      simp [recctlStateFail, htarget, hready, eq_false_of_ne_true hx] at hstate
    obtain ⟨⟨⟨hmemory, ⟨-, -, hcursor⟩, hrun, hqueue, ⟨hloss, -⟩, hconfig, -⟩, hleaf⟩, -, -, hhold, hmissed, -⟩ := h
    exact ⟨⟨⟨hmemory, ⟨fun _ => hplaced, nofun, hcursor⟩, hrun, hqueue, ⟨hloss, nofun⟩, hconfig,
      fun hx => absurd hx hlife⟩, hleaf⟩,
      ⟨⟨fun _ => rfl, fun _ => rfl⟩, fun hx => hconfig.1 (Option.some.inj hx), hhold, hmissed, nofun⟩⟩
  · obtain ⟨⟨⟨hmemory, ⟨-, -, hcursor⟩, hrun, hqueue, ⟨hloss, -⟩, hconfig, -⟩, hleaf⟩, -, -, hhold, hmissed, -⟩ := h
    exact ⟨⟨⟨hmemory, ⟨nofun, nofun, hcursor⟩, hrun, hqueue, ⟨hloss, nofun⟩, hconfig,
      fun hx => absurd hx hlife⟩, hleaf⟩, ⟨⟨nofun, nofun⟩, nofun, hhold, hmissed, nofun⟩⟩
  · exact recorderOk_stopped h (by simp) (by rw [recorderStops_eq]) rfl fun hx => absurd (by simpa using hx) hlife

/-- RECCFG accepts what R105 allows. -/
theorem configOk_reccfg {interval : BitVec 24} {kinds k : Byte} {slots : Vector Byte 8} (s : State)
    (h : reccfgOperands interval kinds k slots = true) : ConfigOk (reccfgEffect interval kinds k slots s) := by
  simp only [reccfgOperands, Bool.and_eq_true, bne_iff_ne, decide_eq_true_eq, List.all_eq_true] at h
  obtain ⟨⟨⟨⟨hinterval, -⟩, hk⟩, hextended⟩, hslots⟩ := h
  refine ⟨hinterval, hk, fun hx hzero => ?_, fun n hn => ?_⟩
  · have hk0 : k = 0 := BitVec.eq_of_toNat_eq hzero
    have hx' : kinds.getLsbD 1 = true := hx
    rw [hx', hk0] at hextended
    exact absurd hextended (by decide)
  · obtain ⟨c, hc, rfl⟩ := List.mem_map.1 hn
    exact hslots c hc

/-- A rewritten seal leaves the writer in order, if it leaves the sealing of the cursor's leaf alone. -/
theorem recorderOk_writeSealBytes {s : State} {leaf : Byte} {bytes : List Byte} (h : RecorderOk s)
    (hlength : bytes.length ≤ 16) (hseal : s.recorder.cursor.placed = true → s.recorder.cursor.leaf = leaf →
      isSealed (writeLeaf leaf 240 bytes s) leaf = isSealed s leaf) : RecorderOk (writeLeaf leaf 240 bytes s) := by
  have hmemory := h.writer.base.memory
  have hinside : 240 + bytes.length ≤ 256 := by omega
  have hbytes (other : Byte) (o : Nat) (ho : o < 256) (hother : other ≠ leaf ∨ o < 240) :
      leafByte (writeLeaf leaf 240 bytes s) other o = leafByte s other o := by
    by_cases hleaf : other = leaf
    · subst hleaf
      rw [leafByte_writeLeaf hmemory other hinside, if_neg]
      have := hother.resolve_left (not_not_intro rfl)
      omega
    · refine leafByte_eq_of_outside (fun a ha => ?_) hleaf ho
      rw [read_writeLeaf hmemory leaf hinside, if_neg (by omega)]
  have hwf := wf_writeLeaf hmemory leaf hinside
  generalize hto : writeLeaf leaf 240 bytes s = t at hseal hbytes hwf
  have hsame : SameSampling s t := by rw [← hto]; exact {}
  refine ⟨⟨h.writer.base.of_same hwf hsame.toSameRecorder, ?_⟩, samplingOk_of_eq h.sampling hsame.countdown hsame.deferred
    hsame.missed hsame.unit hsame.active⟩
  rw [LeafOk, hsame.cursor]
  intro hplaced
  obtain ⟨hblocked, hmarker⟩ := h.writer.leaf hplaced
  refine ⟨hblocked.trans ?_, fun hopen hroom => ?_⟩
  · by_cases hleaf : s.recorder.cursor.leaf = leaf
    · rw [hleaf]
      exact (hseal hplaced hleaf).symm
    · unfold isSealed
      rw [hbytes _ 240 (by omega) (.inl hleaf)]
  · have hoffset : s.recorder.cursor.offset < 240 := hroom
    rw [hbytes _ _ (by omega) (.inr hoffset)]
    exact hmarker hopen hroom

/-- RELEASE keeps the writer's place: a leaf being written is refused, and one it is blocked on is entered (R127). -/
theorem recorderOk_release {leaf : Byte} {s : State} (hdone : answerTo (.release leaf) s = .done) (h : RecorderOk s) :
    RecorderOk (releaseEffect leaf s) := by
  have hstate : ((if beingWritten s leaf then some .state else none) : Option Result).getD .done = .done :=
    stateRefusal_of_done hdone
  have hfree : beingWritten s leaf = false := by
    cases hx : beingWritten s leaf with
    | false => rfl
    | true =>
      rw [hx] at hstate
      exact absurd hstate nofun
  have hzeros : (List.replicate 16 (0 : Byte)).length ≤ 16 := by rw [List.length_replicate]
  have hwf := wf_writeLeaf (bytes := List.replicate 16 0) h.writer.base.memory leaf (offset := 240)
    (by rw [List.length_replicate])
  unfold releaseEffect
  by_cases hsealed : isSealed s leaf = true
  swap
  · rw [if_neg hsealed]
    exact h
  rw [if_pos hsealed]
  dsimp only
  by_cases hhere : (s.recorder.cursor.placed && s.recorder.cursor.blocked && s.recorder.cursor.leaf == leaf) = true
  · rw [if_pos hhere, leafEntry_eq_arrive]
    simp only [Bool.and_eq_true] at hhere
    obtain ⟨⟨hplaced, -⟩, -⟩ := hhere
    obtain ⟨hstore, hrange, hfirst, hlast⟩ := h.writer.base.run hplaced
    have hlife : ¬(s.life = .init ∨ s.life = .unpowered) := fun hx =>
      absurd (hplaced.symm.trans (h.writer.base.quiet hx).2) nofun
    refine ⟨?_, samplingOk_writerRules.arrive _ _ (samplingOk_of_eq h.sampling rfl rfl rfl rfl rfl)⟩
    generalize hto : writeLeaf leaf 240 (List.replicate 16 0) s = t at hwf
    have hsame : SameRecorder s t := by rw [← hto]; exact {}
    refine writerOk_arrive hwf ?_ ?_ ?_ ?_ ?_ ?_
    · rw [RecorderIdle, hsame.unit]; exact h.writer.base.not_idle hplaced
    · rw [hsame.cursor, hsame.directory]; exact ⟨hstore, hrange, hfirst, hlast⟩
    · rw [hsame.queue]; exact h.writer.base.queue.1
    · rw [hsame.lossCount, hsame.lossTime]; exact h.writer.base.loss.1
    · rw [ConfigOk, hsame.config]; exact h.writer.base.config
    · rw [hsame.life]; exact hlife
  · rw [if_neg hhere]
    refine recorderOk_writeSealBytes h hzeros fun hplaced hleaf => ?_
    cases hblocked : s.recorder.cursor.blocked with
    | true => exact absurd (by simp [hplaced, hblocked, hleaf]) hhere
    | false => exact absurd hfree (by simp [beingWritten, hplaced, hblocked, hleaf])

/-- NOTEMARK leaves bit 0 of the seal alone (R128). -/
theorem recorderOk_notemark (leaf : Byte) {s : State} (h : RecorderOk s) : RecorderOk (notemarkEffect leaf s) := by
  unfold notemarkEffect
  refine recorderOk_writeSealBytes h (by rw [List.length_singleton]; omega) fun _ _ => ?_
  unfold isSealed
  rw [leafByte_writeLeaf h.writer.base.memory leaf (by rw [List.length_singleton]; omega), List.length_singleton,
    if_pos (by omega)]
  show (leafByte s leaf 240 ||| 2).getLsbD 0 = _
  rw [BitVec.getLsbD_or]
  exact Bool.or_false _

theorem recorderOk_effect {c : Instr} (hc : (commandBytes c).isSome = true) {s : State} (hup : linkUp s = true)
    (hdone : answerTo c s = .done) (h : RecorderOk s) : RecorderOk (effectOf c s) := by
  cases c
  case grant g v x =>
    rw [effectOf_grant, grantEffect]
    refine recorderOk_evaluateGrants ?_ ?_
    · exact hup
    · exact h.of_same rfl {}
  case recctl target start => exact recorderOk_recctl hup hdone h
  case reccfg interval kinds k slots =>
    obtain ⟨⟨⟨hmemory, hcursor, hrun, hqueue, hloss, -, hquiet⟩, hleaf⟩, hsampling⟩ := h
    have hconfig := configOk_reccfg s (operandsInRange_of_done hdone)
    exact ⟨⟨⟨hmemory, hcursor, hrun, hqueue, hloss, hconfig, hquiet⟩, hleaf⟩, hsampling⟩
  case release leaf => exact recorderOk_release hdone h
  case notemark leaf => exact recorderOk_notemark leaf h
  case sealnow =>
    have hstate : ((if canSeal s then none else some .state) : Option Result).getD .done = .done :=
      stateRefusal_of_done hdone
    have hcan : canSeal s = true := by
      by_contra hx
      simp [hx] at hstate
    simp only [canSeal, Bool.and_eq_true] at hcan
    obtain ⟨⟨hplaced, -⟩, -⟩ := hcan
    exact ⟨writerOk_sealLeaf h.writer.base hplaced, samplingOk_writerRules.sealLeaf h.sampling⟩
  case mark cls tag =>
    have hstate : ((if recording s then none else some .state) : Option Result).getD .done = .done :=
      stateRefusal_of_done hdone
    have hrecording : recording s = true := by
      by_contra hx
      simp [hx] at hstate
    exact (h.offer ((recording_iff s).1 hrecording) _).drain
  case hold n =>
    obtain ⟨hcount, hzero, -, hmissed, hidle⟩ := h.sampling
    exact ⟨h.writer.of_same rfl {}, ⟨hcount, hzero, fun _ => rfl, hmissed, hidle⟩⟩
  case commit x =>
    obtain ⟨⟨⟨hmemory, hcursor, hrun, hqueue, hloss, hconfig, -⟩, hleaf⟩, hsampling⟩ := h
    exact ⟨⟨⟨hmemory, hcursor, hrun, hqueue, hloss, hconfig, by rintro (hx | hx) <;> exact absurd hx nofun⟩, hleaf⟩,
      hsampling⟩
  case bankctl control =>
    rw [effectOf_bankctl, bankctlEffect_eq]
    exact h.of_same rfl {}
  case alertack mask =>
    rw [effectOf_alertack, alertackEffect_eq]
    exact h.of_same rfl {}
  case wdset e w flags =>
    rw [effectOf_wdset, wdsetEffect_eq]
    exact h.of_same rfl {}
  case lock | unlock | standby | tbset | incfg | banksnap | cntset | wrapcfg | winset | alertmask | wdkick | wdoff |
      nop | sysreset =>
    refine h.of_same ?_ ⟨⟨?_, ?_, ?_, ?_, ?_, ?_, ?_, ?_⟩, ?_, ?_, ?_, ?_⟩ <;>
      simp [tbsetEffect, wrapcfgEffect, alertmaskEffect]
  all_goals exact absurd hc Bool.false_ne_true

/-! ## Every step -/

/-- The promises of O56 and O57. -/
structure CoreOk (s : State) : Prop where
  recorder : RecorderOk s
  causes : CausesSideOk s

theorem CoreOk.of_same {s t : State} (h : CoreOk s) (hcapture : t.capture = s.capture) (ht : SameSampling s t)
    (hunits : t.units = s.units) (hcounters : t.counters = s.counters) (halerts : t.alerts = s.alerts) : CoreOk t :=
  ⟨h.recorder.of_same hcapture ht, h.causes.of_eq hunits hcounters halerts⟩

/-- After a reset the recorder is Locked and nothing is pending (section 11.5). -/
theorem coreOk_atReset {t : State} (hmemory : t.capture.wf 65536) (hunits : t.units = State.reset.units)
    (hcounters : t.counters = State.reset.counters) (halerts : t.alerts = State.reset.alerts)
    (hrecorder : ∃ n, t.recorder = { State.reset.recorder with leafSeq := n }) : CoreOk t :=
  ⟨recorderOk_atReset hmemory (by rw [hunits]; rfl) hrecorder, causesSideOk_reset.of_eq hunits hcounters halerts⟩

/-- Before OPEN the stores can be rewritten: the cursor is unplaced there (R168). -/
theorem CoreOk.rewritten {s : State} (h : CoreOk s) (hplaced : s.recorder.cursor.placed = false) {c d : Memory}
    (hc : c.wf 65536) : CoreOk { s with capture := c, directory := d } :=
  ⟨h.recorder.rewritten hplaced hc, h.causes.of_eq rfl rfl rfl⟩

theorem CoreOk.unplaced_of_init {s : State} (h : CoreOk s) (hlife : s.life = .init) :
    s.recorder.cursor.placed = false :=
  (h.recorder.writer.base.quiet (.inl hlife)).2

theorem coreOk_rules : StepRules CoreOk where
  same hs ht := hs.of_same ht.capture
    ⟨⟨ht.directory, ht.life, by rw [ht.units], by rw [ht.recorder], by rw [ht.recorder], by rw [ht.recorder],
      by rw [ht.recorder], by rw [ht.recorder]⟩, by rw [ht.recorder], by rw [ht.recorder], by rw [ht.recorder],
      by rw [ht.hold]⟩ ht.units ht.counters ht.alerts
  count k hs := ⟨hs.recorder.count k, hs.causes.count k⟩
  frameError hs := ⟨hs.recorder.of_same rfl {}, hs.causes.raise (by decide) (by decide) (.inr (by decide))⟩
  alert _ hs := hs.of_same rfl {} rfl rfl rfl
  moved hs := hs.of_same rfl {} rfl rfl rfl
  stored {s} b hrefused hspace hs := by
    simp only [writeRefused, Bool.or_eq_false_iff] at hrefused
    obtain ⟨⟨-, henabled⟩, -⟩ := hrefused
    have hidle : RecorderIdle s := by
      rw [RecorderIdle]
      cases hunit : s.units.recorder <;> first | rfl | exact absurd (hunit ▸ henabled) nofun
    have hplaced := hs.recorder.writer.base.cursor.2.1 hidle
    have hmemory := hs.recorder.writer.base.memory
    have haddress : s.window.ptr.toNat < s.window.space.size := of_decide_eq_true hspace
    unfold storeByte
    cases hkind : s.window.space <;> rw [hkind] at haddress
    · exact hs.rewritten hplaced (Memory.wf_write hmemory haddress b)
    · exact hs.rewritten hplaced hmemory
    · exact hs
  effect hc hup hdone hs :=
    ⟨recorderOk_effect hc hup hdone hs.recorder, causesSideOk_effect hc hdone hs.recorder.writer.base.cursor hs.causes⟩
  held _ _ hs := hs.of_same rfl {} rfl rfl rfl
  heldTick _ hs := hs.of_same rfl {} rfl rfl rfl
  ends hs := ⟨⟨writerOk_endHold hs.recorder.writer, samplingOk_endHold hs.recorder.sampling⟩,
    causesSideOk_endHold hs.causes⟩
  drained hs := ⟨hs.recorder.drain,
    causesSideOk_drain hs.recorder.writer.base.cursor hs.recorder.writer.base.queue hs.causes⟩
  offered r hrunning hs := ⟨hs.recorder.offer hrunning r, causesSideOk_offer r hrunning hs.causes⟩
  granted hup hs := ⟨recorderOk_evaluateGrants hup hs.recorder, causesSideOk_evaluateGrants hs.causes⟩
  supervised _ hs := ⟨recorderOk_supervisorStep hs.recorder, causesSideOk_supervisorStep hs.causes⟩
  sampled hs := ⟨⟨writerOk_sampleStep hs.recorder.writer,
    samplingOk_sampleStep hs.recorder.writer.base.config hs.recorder.sampling⟩, causesSideOk_sampleStep hs.causes⟩
  woken hs := hs.of_same rfl {} rfl rfl rfl
  reset prm hs := coreOk_atReset hs.recorder.writer.base.memory rfl rfl rfl ⟨_, rfl⟩
  pinReset {s} _ hs := by
    obtain ⟨⟨⟨⟨hmemory, hcursor, hrun, hqueue, hloss, hconfig, -⟩, hleaf⟩, hcount, hzero, -, -, -⟩, hcauses⟩ := hs
    exact ⟨⟨⟨⟨hmemory, hcursor, hrun, hqueue, hloss, hconfig, by rintro (hx | hx) <;> exact absurd hx nofun⟩, hleaf⟩,
      ⟨hcount, hzero, nofun, fun _ => rfl, fun _ => rfl⟩⟩, hcauses.of_eq rfl rfl rfl⟩
  released p hs := coreOk_atReset hs.recorder.writer.base.memory rfl rfl rfl ⟨_, rfl⟩
  opened straps p _ := coreOk_atReset (Memory.wf_nil _) rfl rfl rfl ⟨_, rfl⟩
  powered p ev hs ht := by
    obtain rfl := Host.Outcome.next.inj ht
    exact coreOk_atReset hs.recorder.writer.base.memory rfl rfl rfl ⟨_, rfl⟩
  lost hs ht := by
    obtain rfl := Host.Outcome.next.inj ht
    exact coreOk_atReset hs.recorder.writer.base.memory rfl rfl rfl ⟨_, rfl⟩
  swept {s} hlife _ hs := by
    have hmemory := hs.recorder.writer.base.memory
    unfold sweepByte
    split_ifs with hcapture
    · exact (hs.rewritten (d := s.directory) (hs.unplaced_of_init hlife) (Memory.wf_write hmemory hcapture 0)).of_same rfl
        {} rfl rfl rfl
    · exact (hs.rewritten (d := s.directory.write (s.sweep - Config.captureBytes) 0) (hs.unplaced_of_init hlife)
        hmemory).of_same rfl {} rfl rfl rfl
  sweptAll hlife hs :=
    (hs.rewritten (d := []) (hs.unplaced_of_init hlife) (Memory.wf_nil _)).of_same rfl {} rfl rfl rfl

theorem coreOk_of_inv {s : State} (h : Inv s) : CoreOk s :=
  ⟨⟨⟨⟨h.stores.1, h.cursor, h.run, h.queue, h.loss, h.config, h.quiet⟩, h.leaf⟩, h.sampling⟩,
    ⟨⟨h.idleBanks, h.causes, h.faultDetail⟩, h.autoClear.1, h.autoClear.2⟩⟩

end Sys2Proof.Machine

open Sys2Proof Sys2Proof.Machine Sys2Proof.Safety

/-- Settles O56: each operation of a row keeps the writer in order, and the sampling with it. -/
theorem stepKeepsRecorder : Obligations.StepKeepsRecorder := by
  unfold Obligations.StepKeepsRecorder
  intro s t hinv ht
  obtain ⟨⟨⟨⟨-, hcursor, hrun, hqueue, hloss, hconfig, hquiet⟩, hleaf⟩, hsampling⟩, -⟩ :=
    coreOk_rules.step ht (coreOk_of_inv hinv)
  exact ⟨hcursor, hrun, hleaf, hqueue, hloss, hsampling, hconfig, hquiet⟩

/-- Settles O57: a cause of the recorder is raised only while it is not idle, and a count is taken only in a Running
bank. -/
theorem stepKeepsBanksAndCauses : Obligations.StepKeepsBanksAndCauses := by
  unfold Obligations.StepKeepsBanksAndCauses
  intro s t hinv ht
  obtain ⟨-, ⟨hidle, hcauses, hfault⟩, hrecorder, hwrap⟩ := coreOk_rules.step ht (coreOk_of_inv hinv)
  exact ⟨hidle, hcauses, hfault, hrecorder, hwrap⟩

end

section
-- One declaration at a time: in parallel the threads of the whole text take more memory than the check allows.
set_option Elab.async false

/-! SUPPORT. The event boundary (O59): every event ends with the drain of the queue and the evaluation of ALERT#, or
leaves both as they were (R110, R147, R148). -/

namespace Sys2Proof.Machine

open Sys2Proof.Safety

/-- What stands between two events. -/
structure AtBoundary (s : State) : Prop where
  queue : QueueEmpty s
  alert : AlertPinOk s

/-- What leaves the queue and everything that ALERT# shows alone. -/
theorem AtBoundary.of_same {s t : State} (h : AtBoundary s) (ht : SameParts s t) : AtBoundary t := by
  obtain ⟨hqueue, halert⟩ := h
  refine ⟨by rw [QueueEmpty, ht.recorder]; exact hqueue, ?_⟩
  rw [AlertPinOk, linkUp, alertWanted, ht.life, ht.outPins, ht.hold, ht.alerts]
  exact halert

/-- After a reset ALERT# is released and nothing is pending (section 11.5). -/
theorem atBoundary_atReset {t : State} (hqueue : t.recorder.queue = []) (hpins : t.outPins = State.reset.outPins)
    (hhold : t.hold = State.reset.hold) (halerts : t.alerts = State.reset.alerts) : AtBoundary t := by
  refine ⟨hqueue, ?_⟩
  rw [AlertPinOk, alertWanted, hpins, hhold, halerts]
  exact fun _ => rfl

@[simp] theorem leafEntry_queue (s : State) : (leafEntry s).recorder.queue = s.recorder.queue := by
  unfold leafEntry
  dsimp only
  split_ifs <;> simp

/-- Every command's effect leaves the queue empty: what it offers is drained within the same stage (R117). -/
theorem effectOf_queue {c : Instr} (hc : (commandBytes c).isSome = true) {s : State} (hqueue : QueueEmpty s) :
    QueueEmpty (effectOf c s) := by
  unfold QueueEmpty at hqueue ⊢
  cases c
  case grant g v x =>
    rcases evaluateGrants_recorder { s with grantMask := g.setWidth 5, guardMask := v.setWidth 5 } with hr | hr
    · rw [effectOf_grant, grantEffect, hr]
      exact hqueue
    · rw [effectOf_grant, grantEffect, hr]
      rfl
  case recctl target start =>
    rcases recctlEffect_cases target start s with he | ⟨e, t, _, _, _, _, he⟩ | ⟨_, _, he⟩ | ⟨_, he⟩ | ⟨_, he⟩
    all_goals simp [he, recorderStarts, recorderStops, arrive] <;> exact hqueue
  case sealnow => exact sealLeaf_queue_of_empty hqueue
  case mark cls tag => exact drain_queue _
  case release leaf =>
    rw [effectOf_release, releaseEffect]
    dsimp only
    split_ifs <;> simp [hqueue]
  case bankctl control => simpa [bankctlEffect_eq, afterBankctl] using hqueue
  case alertack mask => simpa [alertackEffect_eq] using hqueue
  case wdset e w flags => simpa [wdsetEffect_eq] using hqueue
  case banksnap selection => simpa [banksnapEffect_eq] using hqueue
  case commit | hold | lock | unlock | standby | tbset | incfg | cntset | wrapcfg | reccfg | winset | alertmask |
      notemark | wdkick | wdoff | nop | sysreset =>
    simpa [commitEffect, holdEffect, tbsetEffect, wrapcfgEffect, reccfgEffect, alertmaskEffect, notemarkEffect]
      using hqueue
  all_goals exact absurd hc Bool.false_ne_true

theorem boundary_rules : EventRules AtBoundary QueueEmpty fun _ => True where
  inside hs := hs.queue
  waits _ := trivial
  same hs ht := hs.of_same ht
  sameInside hs ht := by rw [QueueEmpty, ht.recorder]; exact hs
  sameWaiting _ _ := trivial
  count k hs := by simpa [QueueEmpty] using hs
  countWaiting _ _ := trivial
  frameError hs := hs
  alert _ hs := ⟨hs, fun _ => rfl⟩
  moved hs := hs
  stored {s} b _ _ hs := by
    unfold storeByte
    split <;> exact hs
  effect hc _ _ hs := effectOf_queue hc hs.queue
  held _ _ hs := hs
  heldTick _ _ := trivial
  ends _ := trivial
  drained {s} _ := drainList_queue _ s
  offered _ _ _ := trivial
  granted _ _ := trivial
  supervised _ _ := trivial
  sampled _ := trivial
  woken _ := trivial
  reset prm _ := atBoundary_atReset rfl rfl rfl rfl
  pinReset {s} _ hs := ⟨hs.queue, fun hx => absurd hx nofun⟩
  released p _ := atBoundary_atReset rfl rfl rfl rfl
  opened straps p _ := atBoundary_atReset rfl rfl rfl rfl
  powered p ev _ ht := by
    obtain rfl := Host.Outcome.next.inj ht
    exact atBoundary_atReset rfl rfl rfl rfl
  lost _ ht := by
    obtain rfl := Host.Outcome.next.inj ht
    exact atBoundary_atReset rfl rfl rfl rfl
  swept {s} _ _ hs := by
    unfold sweepByte
    split_ifs <;> exact ⟨hs.queue, hs.alert⟩
  sweptAll _ hs := ⟨hs.queue, hs.alert⟩

end Sys2Proof.Machine

open Sys2Proof Sys2Proof.Machine Sys2Proof.Safety

/-- Settles O59: every event that offers a record or changes what ALERT# shows drains the queue and
evaluates ALERT# at its end. -/
theorem eventBoundary : Obligations.EventBoundary := by
  unfold Obligations.EventBoundary
  intro s t hevent hqueue halert ht
  obtain ⟨hqueue', halert'⟩ := boundary_rules.step hevent ht ⟨hqueue, halert⟩
  exact ⟨hqueue', halert'⟩

end

section
-- One declaration at a time: in parallel the threads of the whole text take more memory than the check allows.
set_option Elab.async false

/-! SUPPORT. What only named rows change (O60): the timebase, the masks, the settings, the freeze image, the directory
and what the resets sample, each left alone by every operation that the other rows are made of. -/

namespace Sys2Proof.Machine

open Sys2Proof.Safety

/-- The quantities of O60. -/
structure Named where
  timebase : BitVec 48
  grantMask : BitVec 5
  guardMask : BitVec 5
  freeze : Memory
  prescaler : Byte
  wrapAlert : BitVec 4
  mask : Half
  directory : Memory
  straps : Straps
  resetCause : ResetCause
  resetCount : Byte

def named (s : State) : Named where
  timebase := s.timebase
  grantMask := s.grantMask
  guardMask := s.guardMask
  freeze := s.freeze
  prescaler := s.prescaler
  wrapAlert := s.counters.wrapAlert
  mask := s.alerts.mask
  directory := s.directory
  straps := s.straps
  resetCause := s.resetCause
  resetCount := s.resetCount

/-- `t` differs from `s` in no quantity of O60 but the one that the row `c` names. -/
structure ChangesNamed (c : Instr) (s t : State) : Prop where
  timebase : (∀ p v, c ≠ .tick p v) → t.timebase = s.timebase
  masks : (∀ g v x, c ≠ .grant g v x) → t.grantMask = s.grantMask ∧ t.guardMask = s.guardMask
  freeze : (∀ m, c ≠ .banksnap m) → t.freeze = s.freeze
  prescaler : (∀ p, c ≠ .tbset p) → t.prescaler = s.prescaler
  wrapAlert : (∀ e, c ≠ .wrapcfg e) → t.counters.wrapAlert = s.counters.wrapAlert
  mask : (∀ m, c ≠ .alertmask m) → t.alerts.mask = s.alerts.mask
  directory : t.directory = s.directory
  straps : t.straps = s.straps
  resetCause : t.resetCause = s.resetCause
  resetCount : t.resetCount = s.resetCount

theorem ChangesNamed.of_named (c : Instr) {s t : State} (h : named t = named s) : ChangesNamed c s t := by
  obtain ⟨htimebase, hgrant, hguard, hfreeze, hprescaler, hwrap, hmask, hdirectory, hstraps, hcause, hcount⟩ :=
    Named.mk.inj h
  exact ⟨fun _ => htimebase, fun _ => ⟨hgrant, hguard⟩, fun _ => hfreeze, fun _ => hprescaler, fun _ => hwrap,
    fun _ => hmask, hdirectory, hstraps, hcause, hcount⟩

/-- What follows a change leaves the quantities of O60 alone. -/
theorem ChangesNamed.trans_named {c : Instr} {s e t : State} (h : ChangesNamed c s e) (ht : named t = named e) :
    ChangesNamed c s t := by
  obtain ⟨htimebase, hgrant, hguard, hfreeze, hprescaler, hwrap, hmask, hdirectory, hstraps, hcause, hcount⟩ :=
    Named.mk.inj ht
  constructor
  · rw [htimebase]; exact h.timebase
  · rw [hgrant, hguard]; exact h.masks
  · rw [hfreeze]; exact h.freeze
  · rw [hprescaler]; exact h.prescaler
  · rw [hwrap]; exact h.wrapAlert
  · rw [hmask]; exact h.mask
  · rw [hdirectory]; exact h.directory
  · rw [hstraps]; exact h.straps
  · rw [hcause]; exact h.resetCause
  · rw [hcount]; exact h.resetCount

/-! ## Operations -/

@[simp] theorem named_offerCount (k : Fin 45) (s : State) : named (offerCount k s) = named s := by simp [named]

@[simp] theorem named_evalAlert (s : State) : named (evalAlert s) = named s := by simp [named]

@[simp] theorem named_drain (s : State) : named (drain s) = named s := by simp [named]

@[simp] theorem named_offer (r : Rec) (s : State) : named (offer r s) = named s := by simp [named]

@[simp] theorem named_holdAccounting (s : State) : named (holdAccounting s) = named s := by simp [named]

@[simp] theorem named_finishCommand (held : Bool) (r : Result) (s : State) :
    named (finishCommand held r s) = named s := by simp [named]

@[simp] theorem named_moveOn (s : State) : named (moveOn s) = named s := rfl

@[simp] theorem named_framingError (s : State) : named (framingError s) = named s := by
  unfold framingError
  rw [named_evalAlert, named_offerCount]
  rfl

@[simp] theorem named_windowDelivers (s : State) : named (windowDelivers s) = named s := by
  unfold windowDelivers
  split_ifs
  · rfl
  · rfl
  · rfl
  · rw [named_evalAlert, named_offerCount]
    rfl

@[simp] theorem named_truncate (s : State) : named (truncate s) = named s := named_offerCount 35 _

@[simp] theorem named_permitStep (prm : Bool) (s : State) : named (permitStep prm s) = named s := by simp [named]

@[simp] theorem named_supervisorStep (s : State) : named (supervisorStep s) = named s := by simp [named]

@[simp] theorem named_inputStep (ev : Half) (n : Fin 16) (s : State) : named (inputStep ev n s) = named s := by
  simp [named]

@[simp] theorem named_sampleStep (s : State) : named (sampleStep s) = named s := by simp [named]

@[simp] theorem named_holdStep (s : State) : named (holdStep s) = named s := by simp [named]

@[simp] theorem named_wakeUp (host : Bool) (input : BitVec 4) (s : State) :
    named (wakeUp host input s) = named s := by
  unfold wakeUp
  dsimp only
  rw [named_evalAlert, named_drain]
  split_ifs
  · rw [named_offer]
    rfl
  · rfl

@[simp] theorem named_writeLeaf (leaf : Byte) (o : Nat) (bytes : List Byte) (s : State) :
    named (writeLeaf leaf o bytes s) = named s := by
  simp [named]

@[simp] theorem named_leafEntry (s : State) : named (leafEntry s) = named s := by simp [named]

theorem named_bankctlEffect (control : Byte) (s : State) : named (bankctlEffect control s) = named s := by
  simp [bankctlEffect_eq, afterBankctl, clearedBanks, withoutIdleWrap, apply_ite Alerts.mask, named]

theorem named_cntsetEffect (counter : Byte) (value : Word) (s : State) :
    named (cntsetEffect counter value s) = named s := by
  unfold cntsetEffect
  split_ifs <;> rfl

theorem named_recctlEffect (target start : Byte) (s : State) : named (recctlEffect target start s) = named s := by
  rcases recctlEffect_cases target start s with he | ⟨e, t, _, _, _, _, he⟩ | ⟨_, _, he⟩ | ⟨_, he⟩ | ⟨_, he⟩
  all_goals simp [he, named]

theorem named_wdkickEffect (s : State) : named (wdkickEffect s) = named s := named_offerCount 38 _

theorem named_releaseEffect (leaf : Byte) (s : State) : named (releaseEffect leaf s) = named s := by
  unfold releaseEffect
  dsimp only
  split_ifs
  · rw [named_leafEntry, named_writeLeaf]
  · rw [named_writeLeaf]
  · rfl

/-! ## Rows -/

/-- A command's effect changes the quantity that the command names (R46, R61, R86, R90, R146). -/
theorem changesNamed_effectOf {c : Instr} (hc : (commandBytes c).isSome = true) (s : State) :
    ChangesNamed c s (effectOf c s) := by
  cases c
  case grant g v x =>
    refine ⟨fun _ => ?_, fun h => absurd rfl (h g v x), fun _ => ?_, fun _ => ?_, fun _ => ?_, fun _ => ?_,
      ?_, ?_, ?_, ?_⟩ <;>
      simp [grantEffect]
  case banksnap selection =>
    refine ⟨fun _ => ?_, fun _ => ?_, fun h => absurd rfl (h selection), fun _ => ?_, fun _ => ?_, fun _ => ?_,
      ?_, ?_, ?_, ?_⟩ <;>
      simp [banksnapEffect_eq, wrapsWithout]
  case tbset p =>
    refine ⟨fun _ => ?_, fun _ => ?_, fun _ => ?_, fun h => absurd rfl (h p), fun _ => ?_, fun _ => ?_,
      ?_, ?_, ?_, ?_⟩ <;>
      simp [tbsetEffect]
  case wrapcfg e =>
    refine ⟨fun _ => ?_, fun _ => ?_, fun _ => ?_, fun _ => ?_, fun h => absurd rfl (h e), fun _ => ?_,
      ?_, ?_, ?_, ?_⟩ <;>
      simp [wrapcfgEffect]
  case alertmask m =>
    refine ⟨fun _ => ?_, fun _ => ?_, fun _ => ?_, fun _ => ?_, fun _ => ?_, fun h => absurd rfl (h m),
      ?_, ?_, ?_, ?_⟩ <;>
      simp [alertmaskEffect]
  case commit | lock | unlock | nop | sysreset | hold | reccfg | notemark => exact .of_named _ rfl
  case standby | incfg | winset | wdoff => exact .of_named _ (by simp [named])
  case wdkick x => exact .of_named _ (named_wdkickEffect s)
  case bankctl control => exact .of_named _ (named_bankctlEffect control s)
  case cntset counter value => exact .of_named _ (named_cntsetEffect counter value s)
  case recctl target start => exact .of_named _ (named_recctlEffect target start s)
  case release leaf => exact .of_named _ (named_releaseEffect leaf s)
  case sealnow => exact .of_named _ (by simp [named])
  case mark cls tag => exact .of_named _ (by simp [markEffect])
  case alertack m => exact .of_named _ (by simp [alertackEffect_eq, named])
  case wdset e w flags => exact .of_named _ (by simp [wdsetEffect_eq, named])
  all_goals exact absurd hc nofun

theorem changesNamed_complete (c : Instr) (r : Result) {effect : State → State} {s : State}
    (h : r = .done → ChangesNamed c s (effect s)) : ChangesNamed c s (complete r effect s) := by
  unfold complete
  split_ifs with _ hdone
  · exact (h hdone).trans_named (by simp)
  · exact .of_named c (by simp)
  · exact .of_named c rfl

/-- A command row that is no SYSRESET. -/
theorem changesNamed_command {c : Instr} (hc : (commandBytes c).isSome = true) (hreset : isReset c = false)
    {s t : State} (ht : exec c s = .next t) : ChangesNamed c s t := by
  rw [exec_command hc hreset] at ht
  obtain rfl := Host.Outcome.next.inj ht
  exact changesNamed_complete c _ fun _ => changesNamed_effectOf hc s

theorem named_sendByte {s t : State} (ht : sendByte s = .next t) : named t = named s := by
  unfold sendByte at ht
  split at ht
  · obtain rfl := Host.Outcome.next.inj ht
    unfold sendEcho
    split <;> rfl
  · obtain rfl := Host.Outcome.next.inj ht
    unfold sendStatus
    split_ifs <;> rfl
  · unfold fixPayload at ht
    split_ifs at ht
    · obtain rfl := Host.Outcome.next.inj ht
      exact named_windowDelivers _
    · obtain rfl := Host.Outcome.next.inj ht
      rfl
  · obtain rfl := Host.Outcome.next.inj ht
    rfl
  · obtain rfl := Host.Outcome.next.inj ht
    rfl
  · obtain rfl := Host.Outcome.next.inj ht
    split_ifs
    · exact named_framingError _
    · rfl

theorem named_clockByte {s t : State} (ht : clockByte s = .next t) : named t = named s := by
  unfold clockByte at ht
  split at ht
  · unfold clockPayload at ht
    split_ifs at ht
    · obtain rfl := Host.Outcome.next.inj ht
      rfl
    · obtain rfl := Host.Outcome.next.inj ht
      exact named_windowDelivers _
  · obtain rfl := Host.Outcome.next.inj ht
    rfl

theorem named_outgoingByte {m : ReadMoment} {s t : State} (ht : outgoingByte m s = .next t) : named t = named s := by
  unfold outgoingByte at ht
  split_ifs at ht with hdown
  · obtain rfl := Host.Outcome.next.inj ht
    rfl
  cases m with
  | value => exact named_sendByte ht
  | clock => exact named_clockByte ht
  | nack =>
    obtain rfl := Host.Outcome.next.inj ht
    unfold notAcknowledged
    split_ifs <;> rfl

theorem named_transactionEnds (s : State) : named (transactionEnds s) = named s := by
  have hended : named (endTransaction s) = named s := by
    unfold endTransaction
    split
    · rfl
    all_goals
      rw [named_evalAlert, named_offerCount]
      first | exact named_truncate s | rfl
  unfold transactionEnds
  have hleft (u : State) : named (leaveBus u) = named u := by
    unfold leaveBus
    rw [setCs_eq]
    rfl
  rw [hleft]
  split_ifs
  · exact hended
  · rfl

theorem named_transactionStarts (read : Bool) (s : State) : named (transactionStarts read s) = named s := by
  unfold transactionStarts
  by_cases hup : linkUp s = true
  · rw [if_pos hup]
    have hwoken : named (if s.link.parser == .idle && s.power == .standby then wakeUp true 0 s else s) = named s := by
      split_ifs
      · exact named_wakeUp true 0 s
      · rfl
    dsimp only
    generalize (if s.link.parser == .idle && s.power == .standby then wakeUp true 0 s else s) = u at hwoken
    rw [setCs_eq, ← hwoken]
    split_ifs <;> rfl
  · rw [if_neg hup]
    split_ifs
    · rfl
    · rw [setCs_eq]
      rfl

theorem named_wake {host : Bool} {changed : Half} {s t : State} (ht : execWake host changed s = .next t) :
    named t = named s := by
  obtain rfl := Host.Outcome.next.inj ht
  dsimp only
  split_ifs
  · exact named_wakeUp _ _ _
  · split
    · exact named_wakeUp _ _ _
    · rfl
  · rfl

/-- A tick moves the timebase alone (R47). -/
theorem changesNamed_tickSteps (prm : Bool) (ev : Half) (s : State) :
    ChangesNamed (.tick prm ev) s (tickSteps prm ev s) := by
  obtain ⟨-, hstraps, -, -, -, -, hcause, hcount, -, -, -, hprescaler, hgrant, hguard, hfreeze, hdirectory, -, -, -, -,
    hwrap, hmask, -⟩ := tickSteps_rest prm ev s
  exact ⟨fun h => absurd rfl (h prm ev), fun _ => ⟨hgrant, hguard⟩, fun _ => hfreeze, fun _ => hprescaler,
    fun _ => hwrap, fun _ => hmask, hdirectory, hstraps, hcause, hcount⟩

/-- A row that names a part of an event. -/
theorem named_part {c : Instr} {s t : State} (hc : isEvent c = false) (ht : exec c s = .next t) :
    named t = named s := by
  cases c
  case permitChange | wdWarn | wdFired | pulseEnd | samplingPoint | holdTickLimit | holdCommandsDone =>
    obtain rfl := Host.Outcome.next.inj ht
    split_ifs <;> simp
  case inputEdge n raw =>
    obtain rfl := Host.Outcome.next.inj ht
    split_ifs <;> simp
  all_goals exact absurd hc nofun

/-- Every row that is neither a reset nor an incoming byte. -/
theorem changesNamed_exec {c : Instr} {s t : State} (ht : exec c s = .next t) (hreset : isReset c = false)
    (hincoming : isIncoming c = false) : ChangesNamed c s t := by
  cases hevent : isEvent c with
  | false => exact .of_named c (named_part hevent ht)
  | true =>
    cases c
    case strayRead | echoByte | statusByte | windowReadByte => exact .of_named _ (named_outgoingByte ht)
    case transactionStart a =>
      obtain rfl := Host.Outcome.next.inj ht
      split_ifs
      · exact .of_named _ (named_transactionEnds s)
      · exact .of_named _ (named_transactionStarts _ s)
    case transactionEnd =>
      obtain rfl := Host.Outcome.next.inj ht
      exact .of_named _ (named_transactionEnds s)
    case unknownCommand =>
      obtain rfl := Host.Outcome.next.inj ht
      exact changesNamed_complete _ _ nofun
    case wake => exact .of_named _ (named_wake ht)
    case tick prm ev =>
      obtain rfl := Host.Outcome.next.inj ht
      split_ifs
      · exact changesNamed_tickSteps prm ev s
      · exact .of_named _ rfl
    case permitChange | wdWarn | wdFired | pulseEnd | inputEdge | samplingPoint | holdTickLimit | holdCommandsDone =>
      exact absurd hevent Bool.false_ne_true
    case headerByte | codeByte | operandByte | skipByte | ignoredByte | strayWrite | windowWriteByte =>
      exact absurd hincoming nofun
    case sysreset | powerOnReset | sweepComplete | pinResetAssert | pinResetRelease | releaseOfRstInInit |
        lossOfSupply =>
      exact absurd hreset nofun
    all_goals exact changesNamed_command rfl hreset ht

end Sys2Proof.Machine

open Sys2Proof Sys2Proof.Machine Sys2Proof.Safety

/-- Settles O60: each row's operations leave the named quantities alone, but for the one command or the tick that sets
one of them. -/
theorem onlyNamedRowsChange : Obligations.OnlyNamedRowsChange := by
  unfold Obligations.OnlyNamedRowsChange
  intro c s t ht hreset hincoming
  obtain ⟨htimebase, hmasks, hfreeze, hprescaler, hwrap, hmask, hdirectory, hstraps, hcause, hcount⟩ :=
    changesNamed_exec ht hreset hincoming
  exact ⟨htimebase, hmasks, hfreeze, hprescaler, hwrap, hmask, hdirectory, hstraps, hcause, hcount⟩

end
